-- ==== Sys2Proof/Word.lean ====
section
/-! DEFINITION. The words that travel on the cohort link and the event set (spec 05, section 5.6). -/

namespace Sys2Proof

/-- One byte of a record or of a frame. -/
abbrev Byte := BitVec 8

/-- The event status, the attention mask and a snapshot: seven event bits, numbered as section 5.6
of spec 05 numbers them (bit 0 VERDICT_CHANGED … bit 6 RUN_MISSED). -/
abbrev Events := BitVec 7

/-- One mark per band, bit k for band k (spec 05, section 5.6). -/
abbrev BandMask := BitVec 8

end Sys2Proof
end

