-- ==== Sys2Proof/Syntax.lean ====
section
/-! DEFINITION. The commands of the JN24: one constructor per row of spec/opcode_table.json, in the
table's order, with the data that the event brings from outside the station. -/

namespace Sys2Proof

/-- A frame as a listener reads it, from the 16-bit header to the 16-bit CRC (R45, R48). -/
structure Frame where
  header : BitVec 16
  payload : List Byte
  crc : BitVec 16
deriving DecidableEq, Repr

/-- The readings of the interpolating timer at one sample, in tu: F, and in a PERIOD run F′; none is
*no edge* (R3, R160). -/
structure Timing where
  first : Option Nat
  second : Option Nat
deriving DecidableEq, Repr

/-- What a SYNC pulse finds at its instant. `elapsed` is the REFCLK periods the run count has advanced
since a step last set it (R5); `edges` is the edge counter's D since the previous sample instant (R3,
R6); `windowEdges` is the DUT edges the activity detector's window saw (R9); `timing` is what the timer
then reads when the pulse is the start instant (R11, R171). -/
structure SyncReading where
  elapsed : Nat
  edges : Nat
  windowEdges : Nat
  timing : Timing
deriving DecidableEq, Repr

/-- What FRAME_START_BIT sees that restarts the quiet count and begins no field: LINK dominant, directly after
the last bit of an arbitration field or at a quiet count (R47); or WAIT asserted by another node, which has no
row of its own in the table (R44, R51; DESIGN CHOICE, notes/assumptions/22.md). -/
inductive StartBit where
  | afterField
  | atQuiet (count : Nat)
  | waitAsserted
deriving DecidableEq, Repr

/-- The commands. A record row carries no operand: it acts on the record that record assembly has
completed from frames (R59). -/
inductive Instr where
  | powerOn (straps : BitVec 5) (resetLow : Bool)
  | resetNAsserted
  | resetNReleased (straps : BitVec 5)
  | syncPulse (r : SyncReading)
  | activityWindowLimit (windowEdges : Nat)
  | sampleInstant (edges : Nat)
  | sampleEdgeTimed (first : Nat) (second : Option Nat)
  | sampleTimerLimit (first : Option Nat)
  | selfValuesDone
  | solveBegin
  | solveEnd
  | idleGapReached
  | fieldBeginSeen
  | arbitrationLost
  | arbitrationWon
  | frameReceived (f : Frame)
  | phaseFirstFrame
  | pairEngineTakeFrame
  | pairEngineFrameDone
  | openReleased
  | frameGapReached
  | stallLimit
  | readbackMismatch
  | clearSeen
  | clearPulseEnd
  | clearReleased
  | waitHoldLimit
  | presenceRecord
  | summaryRecord
  | verdictRecord
  | historyRecord
  | numberConflict
  | setup
  | start
  | barrierLookBegin (released : Bool)
  | barrierReleaseSeen
  | stop
  | recall
  | endOfAFrame (openHeld : Bool)
  | frameStartBit (place : StartBit)
deriving DecidableEq, Repr

end Sys2Proof
end

