-- ==== Sys2Proof/Config.lean ====
section
/-! DEFINITION. What the spec fixes for every JN24 (00, "Fixed figures at a glance"), and the free value. -/

namespace Sys2Proof.Config

/-- One REFCLK period in tu (R1). -/
def refclkPeriod : Nat := 160000

/-- The interpolating timer's limit, 128 REFCLK periods, in tu (R3). -/
def timerLimit : Nat := 20480000

/-- Samples of one epoch (00, R4). -/
def epochLength : Nat := 2048

/-- The SYNC period in REFCLK periods (R2, R5). -/
def syncPeriod : Nat := 65536

/-- The last epoch of a run (R23, R26). -/
def lastEpoch : Nat := 16777215

/-- The line tap's number (R167). -/
def lineTap : Nat := 31

/-- The largest station number (R167). -/
def lastStation : Nat := 23

/-- Places of the receive FIFO (R50). -/
def fifoPlaces : Nat := 4

/-- Entries of the history ring (R151). -/
def ringPlaces : Nat := 8

/-- Bytes of a full frame's payload (R45). -/
def fullPayload : Nat := 128

/-- Frames the assembly buffer holds (R56). -/
def bufferFrames : Nat := 11

/-- The idle gap in bit times (R44). -/
def idleGap : Nat := 64

/-- The frame gap in bit times (R44). -/
def frameGap : Nat := 16

/-- The largest magnitude of a residual in tu (R20). -/
def residualBound : Int := 8388607

/-- The largest magnitude of a frequency offset in ppb (R19). -/
def offsetBound : Int := 2000000

/-- FREE VALUE: Q_k of a solve over the station alone whose context has no self values. R137 says that
a measured context always has them, so the spec states no value here; nothing is known of this one
(notes/assumptions/17.md). -/
opaque unformedSelfValue : Nat → Nat

end Sys2Proof.Config
end

