-- ==== Sys2Proof/WellFormed.lean ====
section
/-! DEFINITION. The commands whose operands an event of the hardware can carry. -/

namespace Sys2Proof

/-- A timer reading lies in 1 … 20,480,000 tu (R3). -/
def readingOk (t : Nat) : Bool := 1 ≤ t && t ≤ Config.timerLimit

/-- F is a reading, F′ comes only after F and lies at least 1 tu after it, within the one limit (R3,
R160). -/
def Timing.ok (t : Timing) : Bool :=
  match t.first, t.second with
  | none, none => true
  | some f, none => readingOk f
  | some f, some f' => readingOk f && readingOk f' && f < f'
  | none, some _ => false

/-- The payload is as long as the frame header says: its low seven bits, 0 meaning 128 (R45). -/
def Frame.ok (f : Frame) : Bool :=
  f.payload.length = (if f.header.toNat % 128 = 0 then 128 else f.header.toNat % 128)

/-- Every operand of the command is one that its event can carry. -/
def Instr.wf : Instr → Bool
  | .syncPulse r => r.timing.ok
  | .sampleEdgeTimed f f' => Timing.ok ⟨some f, f'⟩
  | .sampleTimerLimit f => Timing.ok ⟨f, none⟩
  | .frameReceived f => f.ok
  | .powerOn _ _ | .resetNAsserted | .resetNReleased _ | .activityWindowLimit _ | .sampleInstant _
  | .selfValuesDone | .solveBegin | .solveEnd | .idleGapReached | .fieldBeginSeen | .arbitrationLost
  | .arbitrationWon | .phaseFirstFrame | .pairEngineTakeFrame | .pairEngineFrameDone | .openReleased
  | .frameGapReached | .stallLimit | .readbackMismatch | .clearSeen | .clearPulseEnd | .clearReleased
  | .waitHoldLimit | .presenceRecord | .summaryRecord | .verdictRecord | .historyRecord
  | .numberConflict | .setup | .start | .barrierLookBegin _ | .barrierReleaseSeen | .stop | .recall
  | .endOfAFrame _ | .frameStartBit _ => true

end Sys2Proof
end

