-- ==== Sys2Proof/Machine/Operands.lean ====
section
/-! DEFINITION. What the operands of the commands say: the readings of the timer, and the place of a
dominant bit. -/

namespace Sys2Proof.Machine

/-- These readings end the measurement of a sample by an edge: in a HAT run the first edge does, in a
PERIOD run the second (R3, R160). -/
def edgeCompletes (inPeriod : Bool) (t : Timing) : Bool :=
  if inPeriod then t.second.isSome else t.first.isSome

/-- A sample still waits for an edge when the timer reaches its limit: in a HAT run only without a first
edge, in a PERIOD run also after it (R3, R160). -/
def limitCompletes (inPeriod : Bool) (first : Option Nat) : Bool := inPeriod || first.isNone

/-- The meanings of a quiet count at which LINK or OPEN is asserted (R47). -/
inductive QuietZone where
  | field | frame | restart
deriving DecidableEq, Repr

/-- 64 or more, 16 … 63, or less (R47). -/
def quietZone (quiet : Nat) : QuietZone :=
  if Config.idleGap ≤ quiet then .field else if Config.frameGap ≤ quiet then .frame else .restart

end Sys2Proof.Machine
end

