-- ==== Sys2Proof/Machine/State.lean ====
section
/-! DEFINITION. The state of one JN24, block by block (00, "Block overview"), and its value at reset.
Plain data throughout. Numbers the spec counts with are naturals, quantities with a sign are integers,
and what it treats as bits are bit vectors. -/

namespace Sys2Proof.Machine

/-! ## Names -/

/-- The run states (R167, R168, section 11.2). -/
inductive RunState where
  | awaitSetup | ready | barrier | running | strapFault | conflict
deriving DecidableEq, Repr

/-- The DUT states of a run (R10 to R12). -/
inductive DutState where
  | absent | wrongFrequency | settling | measuring
deriving DecidableEq, Repr

/-- The DUT state as records report it (R86). -/
inductive DutReport where
  | absent | active | settling | measuring | wrongFrequency
deriving DecidableEq, Repr

/-- Which of power-on and RESET_N happened last (R168). -/
inductive ResetCause where
  | power | pin
deriving DecidableEq, Repr

/-- The analysis modes (R91, R159). -/
inductive AnalysisMode where
  | hat | period
deriving DecidableEq, Repr

/-- The void reasons, highest first (R22). -/
inductive VoidReason where
  | notMeasuring | disturbed | wander
deriving DecidableEq, Repr

/-- The verdicts (R89). -/
inductive Verdict where
  | pass | marginal | fail | unresolved | noResult
deriving DecidableEq, Repr

/-- The reasons of a verdict (R89). -/
inductive Reason where
  | none | wander | offFrequency | band | figure | disturbed | dutLost | tooFewEpochs
deriving DecidableEq, Repr

/-- The grades of a result (R134). -/
inductive Grade where
  | none | separated | pairBound | referenceBound
deriving DecidableEq, Repr

/-- The roster states (R95). -/
inductive PeerState where
  | unheard | heard | partner | quiet | alien | suspect
deriving DecidableEq, Repr

/-- The nine record kinds (section 5.6). -/
inductive Kind where
  | presence | phase | summary | verdict | history | setup | start | stop | recall
deriving DecidableEq, Repr

/-- The slots of the outgoing queue, in kind priority (R72). -/
inductive SlotKind where
  | presence | summary | phase | verdict | history
deriving DecidableEq, Repr

/-- The frame kinds (R45). -/
inductive FrameKind where
  | only | first | middle | last
deriving DecidableEq, Repr

/-! ## Setup -/

/-- A SETUP's fields as sent (R91). -/
structure SetupFields where
  exponent : Nat
  tNom : Nat
  tolerance : Nat
  settleEpochs : Nat
  modeByte : Nat
  limits : List Nat
  figureMask : BandMask
  figureLimit : Nat
  minEpochs : Nat
  maskByte : Byte
deriving DecidableEq, Repr

/-- The effective setup (R169). `tNom` is in tu × 65,536. -/
structure Setup where
  exponent : Nat
  tNom : Nat
  tolerance : Nat
  settleEpochs : Nat
  mode : AnalysisMode
  limits : List Nat
  figureMask : BandMask
  figureLimit : Nat
  minEpochs : Nat
  mask : Events
deriving DecidableEq, Repr

/-- The setup store: the effective setup and the digest held with it (R94). -/
structure HeldSetup where
  setup : Setup
  digest : Byte
deriving DecidableEq, Repr

/-! ## Records -/

/-- The record header (section 5.6). `kind` is the kind's code. -/
structure Header where
  kind : Nat
  source : Nat
  target : Nat
  run : Nat
  epoch : Nat
  digest : Byte
  frames : Nat
deriving DecidableEq, Repr

/-- One peer's row entry: a peer number and its eight pair values (R88). -/
structure SummaryEntry where
  peer : Nat
  values : List Nat
deriving DecidableEq, Repr

/-- A PRESENCE (R86). -/
structure PresenceBody where
  runState : RunState
  dut : DutReport
  cause : ResetCause
  setupHeld : Bool
  events : Events
  slips : Nat
deriving DecidableEq, Repr

/-- A VERDICT (R89). -/
structure VerdictBody where
  verdict : Verdict
  reason : Reason
  reasonBand : Nat
  grade : Grade
  n : Nat
  mode : AnalysisMode
  belowFloor : BandMask
  runClose : Bool
  events : Events
  slips : Nat
  y : Int
  bands : List Nat
  figure : Nat
  separatedCount : Nat
  boundCount : Nat
deriving DecidableEq, Repr

/-- An entry of the history ring (R151). -/
structure HistoryEntry where
  run : Nat
  epoch : Nat
  runClose : Bool
  verdict : Verdict
  reason : Reason
  reasonBand : Nat
  grade : Grade
  n : Nat
  y : Int
  bands : List Nat
  figure : Nat
deriving DecidableEq, Repr

/-- The link counts (R79). -/
structure LinkCounts where
  clearPresence : Nat
  clearSummary : Nat
  clearPhase : Nat
  clearVerdict : Nat
  clearHistory : Nat
  phaseWithdrawn : Nat
  summaryWithdrawn : Nat
  verdictSuperseded : Nat
deriving DecidableEq, Repr

/-- A roster entry as a HISTORY carries it (R107). -/
structure RosterReport where
  peer : Nat
  state : PeerState
  missed : Nat
  mismatch : Nat
  broken : Nat
  late : Nat
  duplicate : Nat
deriving DecidableEq, Repr

/-- A HISTORY: link counts, ring newest first, roster in ascending number (R90). -/
structure HistoryBody where
  counts : LinkCounts
  entries : List HistoryEntry
  roster : List RosterReport
deriving DecidableEq, Repr

/-- What a record of this station carries after its header (R86 to R90). -/
inductive Body where
  | presence (b : PresenceBody)
  | phase (residuals : List Int)
  | summary (entries : List SummaryEntry)
  | verdict (b : VerdictBody)
  | history (b : HistoryBody)
deriving DecidableEq, Repr

/-- A record this station makes (R81). -/
structure Record where
  header : Header
  body : Body
deriving DecidableEq, Repr

/-- What a received record that passed the checks of R83 and R84 carries. No block reads a HISTORY
(R59). -/
inductive RxBody where
  | presence (b : PresenceBody)
  | summary (entries : List SummaryEntry)
  | verdict (b : VerdictBody)
  | history
  | setup (f : SetupFields)
  | start (run : Nat) (digest : Byte)
  | stop
  | recall
deriving DecidableEq, Repr

/-- A received record (R59). -/
structure RxRecord where
  header : Header
  body : RxBody
deriving DecidableEq, Repr

/-! ## Capture unit -/

/-- Samples whose timer is running: `count` samples from index `firstIndex` on, sharing one timer
reading and one edge-counter reading (R4, R6). -/
structure Measurement where
  firstIndex : Nat
  count : Nat
  adjusted : Bool
  edges : Nat
deriving DecidableEq, Repr

/-- The run count and the next sample index (R4). `count` is the run count as the last step left it. -/
structure RunClock where
  count : Nat
  nextIndex : Nat
deriving DecidableEq, Repr

/-- The raw time-error store, entries in sample order (R8). -/
structure RawStore where
  epoch : Nat
  entries : List Int
deriving DecidableEq, Repr

/-- The time-error reference s_ref, F_ref and the edges K counted since (R7). -/
structure Reference where
  index : Nat
  delay : Nat
  edges : Nat
deriving DecidableEq, Repr

/-- The capture unit (R24). -/
structure Capture where
  clock : Option RunClock
  awaiting : List Measurement
  nextAdjusted : Bool
  raw : Option RawStore
  reference : Option Reference
  settle : Option Nat
  dut : Option DutState
  lastReading : Option Nat
  afterAdjusted : Nat
  slipBefore : Bool
  slips : Nat
  active : Bool
  tNomRounded : Option Nat
deriving DecidableEq, Repr

/-! ## Epoch controller -/

/-- The state of a pair entry with what it holds there (R112). -/
inductive PairState where
  | none
  | receiving (sums : List Nat) (next : Nat)
  | done (values : List Nat)
  | broken
deriving DecidableEq, Repr

/-- A pair entry (R112). -/
structure PairEntry where
  peer : Nat
  state : PairState
deriving DecidableEq, Repr

/-- A stored summary (R125). -/
structure Summary where
  source : Nat
  entries : List SummaryEntry
deriving DecidableEq, Repr

/-- An epoch's period values (R162). -/
structure PeriodValues where
  variance : Nat
  rms : Nat
  peak : Nat
deriving DecidableEq, Repr

/-- An epoch context (R27). Its state is the place of the table it stands in. -/
structure Context where
  epoch : Nat
  void : Option VoidReason
  y : Option Int
  selfValues : Option (List Nat)
  period : Option PeriodValues
  pairs : List PairEntry
  summaries : List Summary
deriving DecidableEq, Repr

/-- The epoch controller: run number, epoch counter and the context table, one place for each context
state (R25 to R27). -/
structure Epochs where
  runNumber : Nat
  counter : Nat
  capture : Option Context
  exchange : Option Context
  summaryWait : Option Context
deriving DecidableEq, Repr

/-! ## Pair engine -/

/-- The own residual store when it holds an epoch (R108). -/
structure OwnStore where
  epoch : Nat
  residuals : List Int
deriving DecidableEq, Repr

/-- The work buffer: for each scale up to two earlier values of d, oldest first, and the bytes of a
split residual (R116). -/
structure WorkBuffer where
  held : List (List Int)
  split : List Byte
deriving DecidableEq, Repr

/-- A frame the engine has taken and not yet finished: its peer, its residual bytes, and whether it is
the record's LAST frame (R115). -/
structure FrameInHand where
  peer : Nat
  bytes : List Byte
  last : Bool
deriving DecidableEq, Repr

/-- The epoch statistics of a PERIOD run (R161). -/
structure EpochStats where
  count : Nat
  sum : Int
  squares : Nat
  min : Option Int
  max : Option Int
deriving DecidableEq, Repr

/-- The pair engine (R124). `mode` is the accumulator memory's use (R123, R159). -/
structure PairEngine where
  ownStore : Option OwnStore
  work : WorkBuffer
  inHand : Option FrameInHand
  selfFor : Option Nat
  closeHold : Bool
  mode : Option AnalysisMode
  stats : Option EpochStats
deriving DecidableEq, Repr

/-! ## Solver -/

/-- The running solve: the context handed over and the peers read SUSPECT at its beginning (R128). -/
structure RunningSolve where
  context : Context
  suspects : List Nat
deriving DecidableEq, Repr

/-- The solver: the running solve and the waiting ones in trigger order (R35). -/
structure Solver where
  running : Option RunningSolve
  waiting : List Context
deriving DecidableEq, Repr

/-! ## Verdict unit -/

/-- A run accumulator set (R147). -/
structure AccSet where
  count : Nat
  sums : List Nat
  smallestN : Option Nat
  referenceMark : Bool
deriving DecidableEq, Repr

/-- The period run statistics (R164). -/
structure PeriodRun where
  count : Nat
  varianceSum : Nat
  largestPeak : Option Nat
deriving DecidableEq, Repr

/-- The verdict unit (R158). `history` stands oldest first. -/
structure VerdictUnit where
  newest : Option Verdict
  lastReported : Option Verdict
  separated : AccSet
  bound : AccSet
  period : PeriodRun
  firstFailure : Option Reason
  lastY : Option Int
  dutAtEnd : Option DutState
  history : List HistoryEntry
  events : Events
  snapshot : Option Events
  renewed : Events
  mask : Events
deriving DecidableEq, Repr

/-! ## Peer roster -/

/-- A roster entry (R95). -/
structure RosterEntry where
  peer : Nat
  state : PeerState
  digest : Option Byte
  run : Option Nat
  runState : Option RunState
  dut : Option DutReport
  verdictId : Option (Nat × Nat)
  missed : Nat
  mismatch : Nat
  broken : Nat
  late : Nat
  duplicate : Nat
deriving DecidableEq, Repr

/-! ## Link controller -/

/-- A listener between its field and its frames: the field's winner has not begun, a frame is over, or a
frame is being received (R47, R48). -/
inductive ListenPhase where
  | fieldPending | between | inFrame
deriving DecidableEq, Repr

/-- Where a sender stands with its present frame: sending it, waiting for its take, waiting for the
frame gap, or stopped by its own CLEAR (R53, R54, R70). -/
inductive SendPhase where
  | inFrame | awaitingTake | awaitingGap | ceased
deriving DecidableEq, Repr

/-- The link controller's states (R46), and stopped (R43). A contender holds the ten bits of its field
(R66); a sender holds the slot whose record is ON_LINK and the index of its present frame. -/
inductive LinkMode where
  | stopped
  | idleWait
  | contending (field : BitVec 10)
  | sending (slot : SlotKind) (index : Nat) (phase : SendPhase)
  | listening (phase : ListenPhase)
deriving DecidableEq, Repr

/-- A good frame as the FIFO holds it (R50). -/
structure GoodFrame where
  kind : FrameKind
  index : Nat
  payload : List Byte
deriving DecidableEq, Repr

/-- A FIFO entry: a good frame, or none for a bad one, and the mark *followed by a lost frame* (R50). -/
structure FifoEntry where
  frame : Option GoodFrame
  lost : Bool
deriving DecidableEq, Repr

/-- How the consumer holds the record open in assembly: a PHASE not yet classified, a current PHASE, a
PHASE whose frames are discarded (R37, R58), or any other kind with its assembly buffer (R56). -/
inductive Holding where
  | unclassified
  | current
  | discarded
  | buffered (bytes : List Byte)
deriving DecidableEq, Repr

/-- The record open in assembly. `taken` counts its frames that have left the FIFO; `counted` says that
the roster has already counted it as broken (R100). -/
structure OpenRecord where
  header : Header
  taken : Nat
  holding : Holding
  counted : Bool
deriving DecidableEq, Repr

/-- What record assembly hands on: a record that passed its checks (R83), or the finding of a number
conflict (R71). -/
inductive HandOn where
  | record (r : RxRecord)
  | conflict
deriving DecidableEq, Repr

/-- The link controller (R64). -/
structure Link where
  mode : LinkMode
  quiet : Nat
  fifo : List FifoEntry
  opened : Option OpenRecord
  handOn : Option HandOn
  lastWinner : Nat
  clearSeen : Bool
  clearPulse : Bool
  clearRun : Nat
  faultFlag : Bool
  counts : LinkCounts
deriving DecidableEq, Repr

/-! ## Outgoing queue -/

/-- A slot's state with its record. An ON_LINK record may be past its deadline (R75), and one the run's
end has marked is not sent again (R80). -/
inductive SlotState where
  | empty
  | unsent (r : Record)
  | onLink (r : Record) (pastDeadline runEnded : Bool)
deriving DecidableEq, Repr

/-- A slot of the outgoing queue with its successor (R72, R74). -/
structure Slot where
  state : SlotState
  successor : Option Record
deriving DecidableEq, Repr

/-- The outgoing queue (R72). -/
structure Queue where
  presence : Slot
  summary : Slot
  phase : Slot
  verdict : Slot
  history : Slot
deriving DecidableEq, Repr

/-! ## Run control -/

/-- The start barrier: the claim on WAIT, the look begun, armed (R51, R171). -/
structure Barrier where
  claim : Bool
  looking : Bool
  armed : Bool
deriving DecidableEq, Repr

/-- Run control (chapter 11). `presenceDue` is the model's own: an occasion of R175 has arisen within the
present step. -/
structure Control where
  number : Nat
  cause : ResetCause
  held : Option HeldSetup
  state : RunState
  barrier : Barrier
  presenceDue : Bool
deriving DecidableEq, Repr

/-- What holds the station: nothing, the internal power-on reset, RESET_N, or RESET_N since before
power-on ended (R168). -/
inductive Hold where
  | free | powerOn | resetN | resetNFromPowerOn
deriving DecidableEq, Repr

/-- The station, and the commands that wait, first in first out. -/
structure State where
  hold : Hold
  control : Control
  capture : Capture
  epochs : Epochs
  engine : PairEngine
  solver : Solver
  verdicts : VerdictUnit
  roster : List RosterEntry
  link : Link
  queue : Queue
  pending : List Instr
deriving DecidableEq, Repr

/-! ## Reset values -/

/-- The capture unit at power-on (R24, R166). -/
def Capture.reset : Capture :=
  { clock := none, awaiting := [], nextAdjusted := false, raw := none, reference := none, settle := none,
    dut := none, lastReading := none, afterAdjusted := 0, slipBefore := false, slips := 0, active := false,
    tNomRounded := none }

/-- The epoch controller at power-on (R42). -/
def Epochs.reset : Epochs :=
  { runNumber := 0, counter := 0, capture := none, exchange := none, summaryWait := none }

/-- The empty work buffer, a list for each of the eight scales (R116). -/
def WorkBuffer.empty : WorkBuffer := { held := List.replicate 8 [], split := [] }

/-- The pair engine at power-on (R124, R166). -/
def PairEngine.reset : PairEngine :=
  { ownStore := none, work := WorkBuffer.empty, inHand := none, selfFor := none, closeHold := false,
    mode := none, stats := none }

/-- The solver with no solve in hand (R141). -/
def Solver.empty : Solver := { running := none, waiting := [] }

/-- A cleared run accumulator set (R147). -/
def AccSet.empty : AccSet :=
  { count := 0, sums := List.replicate 8 0, smallestN := none, referenceMark := false }

/-- Cleared period run statistics (R164). -/
def PeriodRun.empty : PeriodRun := { count := 0, varianceSum := 0, largestPeak := none }

/-- The verdict unit at power-on (R158): the attention mask is LINK_FAULT (bit 4) and NUMBER_CONFLICT
(bit 5) (R156). -/
def VerdictUnit.reset : VerdictUnit :=
  { newest := none, lastReported := none, separated := AccSet.empty, bound := AccSet.empty,
    period := PeriodRun.empty, firstFailure := none, lastY := none, dutAtEnd := none, history := [],
    events := 0, snapshot := none, renewed := 0, mask := 0x30 }

/-- The link counts at 0 (R79). -/
def LinkCounts.zero : LinkCounts :=
  { clearPresence := 0, clearSummary := 0, clearPhase := 0, clearVerdict := 0, clearHistory := 0,
    phaseWithdrawn := 0, summaryWithdrawn := 0, verdictSuperseded := 0 }

/-- The link controller at power-on (R64, R78, R79). -/
def Link.reset : Link :=
  { mode := .idleWait, quiet := 0, fifo := [], opened := none, handOn := none, lastWinner := 31,
    clearSeen := false, clearPulse := false, clearRun := 0, faultFlag := false, counts := LinkCounts.zero }

/-- An EMPTY slot. -/
def Slot.empty : Slot := { state := .empty, successor := none }

/-- The outgoing queue with all slots EMPTY (R80). -/
def Queue.empty : Queue :=
  { presence := Slot.empty, summary := Slot.empty, phase := Slot.empty, verdict := Slot.empty,
    history := Slot.empty }

/-- The start barrier when none is on. -/
def Barrier.none : Barrier := { claim := false, looking := false, armed := false }

/-- Run control at power-on, before the straps are read (R168). DESIGN CHOICE: the number before the
first reading is 0 (notes/assumptions/4.md). -/
def Control.reset : Control :=
  { number := 0, cause := .power, held := Option.none, state := .awaitSetup, barrier := Barrier.none,
    presenceDue := false }

/-- The station under its internal power-on reset, every block at its power-on values (R168). POWER_ON
ends that reset (notes/assumptions/3.md). -/
def State.reset : State :=
  { hold := .powerOn, control := Control.reset, capture := Capture.reset, epochs := Epochs.reset,
    engine := PairEngine.reset, solver := Solver.empty, verdicts := VerdictUnit.reset, roster := [],
    link := Link.reset, queue := Queue.empty, pending := [] }

/-! ## Reasons to stop -/

/-- Why a command stops the model. -/
inductive Fault where
  /-- Raised by a command whose operand no event of the hardware can carry (`Instr.wf` is false). Safe:
  the hardware never meets such an event. -/
  | impossibleOperand
deriving DecidableEq, Repr

/-- Why a command is refused. -/
inductive Refusal where
  /-- Raised by an arm of `exec` whose command has no meaning yet. Safe. -/
  | notModelled (mnemonic : String)
deriving DecidableEq, Repr

end Sys2Proof.Machine
end

