-- ==== Sys2Proof/Machine/Flags.lean ====
section
/-! DEFINITION. The event status, its snapshots and the attention output (R154 to R157). -/

namespace Sys2Proof.Machine

/-- The seven events (R154). -/
inductive Event where
  | verdictChanged | failSeen | dutChanged | slipWrapped | linkFault | numberConflict | runMissed
deriving DecidableEq, Repr

/-- The event's bit (section 5.6). -/
def Event.bit : Event → Events
  | .verdictChanged => 0x01 | .failSeen => 0x02 | .dutChanged => 0x04 | .slipWrapped => 0x08
  | .linkFault => 0x10 | .numberConflict => 0x20 | .runMissed => 0x40

/-- The event is in the set. -/
def Event.isIn (e : Event) (es : Events) : Bool := es &&& e.bit ≠ 0

/-- A cause sets or renews an event: while a snapshot is in flight its renewed mark is set too (R154,
R155). -/
def VerdictUnit.raise (v : VerdictUnit) (e : Event) : VerdictUnit :=
  { v with events := v.events ||| e.bit
           renewed := if v.snapshot.isSome then v.renewed ||| e.bit else v.renewed }

/-- The first start bit of a PRESENCE or VERDICT takes a snapshot and clears the marks (R155). -/
def VerdictUnit.takeSnapshot (v : VerdictUnit) : VerdictUnit :=
  { v with snapshot := some v.events, renewed := 0 }

/-- An abort, or the record given up, discards the snapshot and the marks (R155). -/
def VerdictUnit.dropSnapshot (v : VerdictUnit) : VerdictUnit :=
  { v with snapshot := none, renewed := 0 }

/-- A PRESENCE or VERDICT completes at the sender (R155, R146): the events of its snapshot that were not
renewed are cleared, an epoch VERDICT's verdict becomes the last reported one, and VERDICT_CHANGED is
set again while the newest verdict differs from it. -/
def VerdictUnit.complete (v : VerdictUnit) (reported : Option Verdict) : VerdictUnit :=
  let sent := v.snapshot.getD 0
  let kept := v.events &&& ~~~(sent &&& ~~~v.renewed)
  let last := if reported.isSome then reported else v.lastReported
  { v with
    snapshot := none
    renewed := 0
    lastReported := last
    events := if v.newest ≠ last then kept ||| Event.verdictChanged.bit else kept }

/-- ATTN is asserted exactly while the event status and the attention mask have an event in common
(R157). -/
def State.attn (s : State) : Bool := s.verdicts.events &&& s.verdicts.mask ≠ 0

end Sys2Proof.Machine
end

