-- ==== Sys2Proof/Machine/Bytes.lean ====
section
/-! DEFINITION. Byte order, check values, and the roundings the spec names. -/

namespace Sys2Proof.Machine

/-! ## Fields of bytes (R81) -/

/-- `count` bytes of `n`, most significant first. -/
def bytesOf : (count : Nat) → (n : Nat) → List Byte
  | 0, _ => []
  | count + 1, n => BitVec.ofNat 8 (n / 256 ^ count) :: bytesOf count n

/-- The number that bytes hold, most significant first. -/
def natOf (bs : List Byte) : Nat := bs.foldl (fun n b => n * 256 + b.toNat) 0

/-- `count` bytes of a signed value in two's complement. -/
def signedBytesOf (count : Nat) (i : Int) : List Byte := bytesOf count (i % 256 ^ count).toNat

/-- The signed value that bytes hold in two's complement. -/
def signedOf (bs : List Byte) : Int :=
  if 2 * natOf bs < 256 ^ bs.length then (natOf bs : Int) else (natOf bs : Int) - 256 ^ bs.length

/-- The bytes of a field of `count` bytes that begins at byte `offset` of a record. -/
def slice (bs : List Byte) (offset count : Nat) : List Byte := (bs.drop offset).take count

/-- The number in a field of a record. -/
def field (bs : List Byte) (offset count : Nat) : Nat := natOf (slice bs offset count)

/-- One byte of a record. -/
def byteAt (bs : List Byte) (offset : Nat) : Byte := bs.getD offset 0

/-! ## Check values -/

/-- The bits of bytes as they are sent, most significant first (R44). -/
def bitsOf (bs : List Byte) : List Bool :=
  bs.flatMap fun b => (List.range 8).map fun i => b.getMsbD i

/-- One bit of the frame CRC (R93). -/
def crcBit (r : BitVec 16) (b : Bool) : BitVec 16 :=
  if (r.msb ^^ b) then (r <<< 1) ^^^ 0x1021 else r <<< 1

/-- The frame CRC-16 over bytes (R93). -/
def crc16 (bs : List Byte) : BitVec 16 := (bitsOf bs).foldl crcBit 0xFFFF

/-- One bit of the setup digest (R94). -/
def digestBit (r : Byte) (b : Bool) : Byte :=
  if (r.msb ^^ b) then (r <<< 1) ^^^ 0x07 else r <<< 1

/-- The 8-bit digest over bytes (R94). -/
def digestOf (bs : List Byte) : Byte := (bitsOf bs).foldl digestBit 0

/-! ## Roundings and roots -/

/-- `num / den` to the nearest whole number, halves going up. -/
def roundHalfUp (num den : Nat) : Nat := num / den + (if den ≤ 2 * (num % den) then 1 else 0)

/-- `num / den` to the nearest whole number, halves away from zero. -/
def roundHalfAway (num : Int) (den : Nat) : Int :=
  if 0 ≤ num then (roundHalfUp num.natAbs den : Int) else -(roundHalfUp num.natAbs den : Int)

/-- The bits of a root below `2 ^ bits` above `r`, found one after another from the top. -/
def rootFrom (n : Nat) : (bits : Nat) → (r : Nat) → Nat
  | 0, r => r
  | bits + 1, r => rootFrom n bits (if (r + 2 ^ bits) ^ 2 ≤ n then r + 2 ^ bits else r)

/-- The largest whole number whose square does not exceed `n` (R138, R162). -/
def root (n : Nat) : Nat := rootFrom n (n.log2 / 2 + 1) 0

/-- A count of `bound` at most, raised by one. -/
def saturate (bound n : Nat) : Nat := min bound (n + 1)

end Sys2Proof.Machine
end

