-- ==== Sys2Proof/Machine/Records.lean ====
section
/-! DEFINITION. Records and frames (chapter 5): codes, layouts, cutting into frames, and the checks on
received records. -/

namespace Sys2Proof.Machine

/-! ## Codes (section 5.6) -/

def Kind.code : Kind → Nat
  | .presence => 1 | .phase => 2 | .summary => 3 | .verdict => 4 | .history => 5
  | .setup => 8 | .start => 9 | .stop => 10 | .recall => 11

def Kind.ofCode : Nat → Option Kind
  | 1 => some .presence | 2 => some .phase | 3 => some .summary | 4 => some .verdict | 5 => some .history
  | 8 => some .setup | 9 => some .start | 10 => some .stop | 11 => some .recall
  | _ => none

/-- Run-state codes. STRAP_FAULT and CONFLICT have none, since a station there makes no record (R86);
the value given them is never sent. -/
def RunState.code : RunState → Nat
  | .awaitSetup => 0 | .ready => 1 | .barrier => 2 | .running => 3 | .strapFault => 255 | .conflict => 255

def RunState.ofCode : Nat → Option RunState
  | 0 => some .awaitSetup | 1 => some .ready | 2 => some .barrier | 3 => some .running | _ => none

def DutReport.code : DutReport → Nat
  | .absent => 0 | .active => 1 | .settling => 2 | .measuring => 3 | .wrongFrequency => 4

def DutReport.ofCode : Nat → Option DutReport
  | 0 => some .absent | 1 => some .active | 2 => some .settling | 3 => some .measuring
  | 4 => some .wrongFrequency | _ => none

def ResetCause.code : ResetCause → Nat
  | .power => 0 | .pin => 1

def ResetCause.ofCode : Nat → Option ResetCause
  | 0 => some .power | 1 => some .pin | _ => none

def Verdict.code : Verdict → Nat
  | .pass => 0 | .marginal => 1 | .fail => 2 | .unresolved => 3 | .noResult => 4

def Verdict.ofCode : Nat → Option Verdict
  | 0 => some .pass | 1 => some .marginal | 2 => some .fail | 3 => some .unresolved | 4 => some .noResult
  | _ => none

def Reason.code : Reason → Nat
  | .none => 0 | .wander => 1 | .offFrequency => 2 | .band => 3 | .figure => 4 | .disturbed => 5
  | .dutLost => 6 | .tooFewEpochs => 7

def Reason.ofCode : Nat → Option Reason
  | 0 => some .none | 1 => some .wander | 2 => some .offFrequency | 3 => some .band | 4 => some .figure
  | 5 => some .disturbed | 6 => some .dutLost | 7 => some .tooFewEpochs | _ => Option.none

def Grade.code : Grade → Nat
  | .none => 0 | .separated => 1 | .pairBound => 2 | .referenceBound => 3

def Grade.ofCode : Nat → Option Grade
  | 0 => some .none | 1 => some .separated | 2 => some .pairBound | 3 => some .referenceBound
  | _ => Option.none

/-- The analysis mode of a SETUP or VERDICT byte: 1 is PERIOD (R91, section 5.6). -/
def AnalysisMode.ofByte (b : Nat) : AnalysisMode := if b = 1 then .period else .hat

def AnalysisMode.code : AnalysisMode → Nat
  | .hat => 0 | .period => 1

def PeerState.code : PeerState → Nat
  | .unheard => 0 | .heard => 1 | .partner => 2 | .quiet => 3 | .alien => 4 | .suspect => 5

def FrameKind.code : FrameKind → Nat
  | .only => 0 | .first => 1 | .middle => 2 | .last => 3

def FrameKind.ofCode : Nat → FrameKind
  | 0 => .only | 1 => .first | 2 => .middle | _ => .last

def boolByte (b : Bool) : Byte := if b then 1 else 0

/-! ## Headers -/

/-- The nine header bytes (section 5.6). -/
def Header.bytes (h : Header) : List Byte :=
  bytesOf 1 h.kind ++ bytesOf 1 h.source ++ bytesOf 1 h.target ++ bytesOf 1 h.run ++ bytesOf 3 h.epoch
    ++ [h.digest] ++ bytesOf 1 h.frames

/-- The header that opens a record's bytes (R45). -/
def Header.ofBytes (bs : List Byte) : Header :=
  { kind := field bs 0 1, source := field bs 1 1, target := field bs 2 1, run := field bs 3 1,
    epoch := field bs 4 3, digest := byteAt bs 7, frames := field bs 8 1 }

/-! ## Payloads of the records this station makes (R86 to R90, section 5.6) -/

def PresenceBody.bytes (b : PresenceBody) : List Byte :=
  bytesOf 1 b.runState.code ++ bytesOf 1 b.dut.code ++ bytesOf 1 b.cause.code ++ [boolByte b.setupHeld]
    ++ [b.events.setWidth 8] ++ bytesOf 2 b.slips

def SummaryEntry.bytes (e : SummaryEntry) : List Byte :=
  bytesOf 1 e.peer ++ e.values.flatMap (bytesOf 7)

def VerdictBody.bytes (b : VerdictBody) : List Byte :=
  bytesOf 1 b.verdict.code ++ bytesOf 1 b.reason.code ++ bytesOf 1 b.reasonBand ++ bytesOf 1 b.grade.code
    ++ bytesOf 1 b.n ++ bytesOf 1 b.mode.code ++ [b.belowFloor] ++ [boolByte b.runClose]
    ++ [b.events.setWidth 8] ++ bytesOf 2 b.slips ++ signedBytesOf 4 b.y ++ b.bands.flatMap (bytesOf 4)
    ++ bytesOf 4 b.figure ++ bytesOf 2 b.separatedCount ++ bytesOf 2 b.boundCount

def HistoryEntry.bytes (e : HistoryEntry) : List Byte :=
  bytesOf 1 e.run ++ bytesOf 3 e.epoch ++ [boolByte e.runClose] ++ bytesOf 1 e.verdict.code
    ++ bytesOf 1 e.reason.code ++ bytesOf 1 e.reasonBand ++ bytesOf 1 e.grade.code ++ bytesOf 1 e.n
    ++ signedBytesOf 4 e.y ++ e.bands.flatMap (bytesOf 4) ++ bytesOf 4 e.figure

def LinkCounts.bytes (c : LinkCounts) : List Byte :=
  bytesOf 2 c.clearPresence ++ bytesOf 2 c.clearSummary ++ bytesOf 2 c.clearPhase
    ++ bytesOf 2 c.clearVerdict ++ bytesOf 2 c.clearHistory ++ bytesOf 2 c.phaseWithdrawn
    ++ bytesOf 2 c.summaryWithdrawn ++ bytesOf 2 c.verdictSuperseded

def RosterReport.bytes (r : RosterReport) : List Byte :=
  bytesOf 1 r.peer ++ bytesOf 1 r.state.code ++ bytesOf 1 r.missed ++ bytesOf 1 r.mismatch
    ++ bytesOf 2 r.broken ++ bytesOf 2 r.late ++ bytesOf 2 r.duplicate

def HistoryBody.bytes (b : HistoryBody) : List Byte :=
  b.counts.bytes ++ bytesOf 1 b.entries.length ++ b.entries.flatMap HistoryEntry.bytes
    ++ bytesOf 1 b.roster.length ++ b.roster.flatMap RosterReport.bytes

def Body.bytes : Body → List Byte
  | .presence b => b.bytes
  | .phase rs => rs.flatMap (signedBytesOf 3)
  | .summary es => bytesOf 1 es.length ++ es.flatMap SummaryEntry.bytes
  | .verdict b => b.bytes
  | .history b => b.bytes

def Body.kind : Body → Kind
  | .presence _ => .presence | .phase _ => .phase | .summary _ => .summary | .verdict _ => .verdict
  | .history _ => .history

/-- A record's bytes: the header, then the payload (R81). -/
def Record.bytes (r : Record) : List Byte := r.header.bytes ++ r.body.bytes

/-! ## Cutting into frames (R45, R81) -/

/-- ⌈L / 128⌉ frames for a record of L bytes (R81). -/
def frameCount (length : Nat) : Nat := (length + 127) / 128

/-- The kind of frame `f` of a record of `c` frames (R45). -/
def frameKindAt (c f : Nat) : FrameKind :=
  if c ≤ 1 then .only else if f = 0 then .first else if f + 1 = c then .last else .middle

/-- The sixteen bits of a frame header: kind, index, payload length with 128 sent as 0 (section 5.6). -/
def frameHeader (k : FrameKind) (index length : Nat) : BitVec 16 :=
  BitVec.ofNat 16 (k.code * 16384 + index % 128 * 128 + length % 128)

/-- A frame header as the two bytes the CRC runs over (R93). -/
def headerBytes (h : BitVec 16) : List Byte := bytesOf 2 h.toNat

/-- The frame that carries a payload under a header (R45, R93). -/
def frameOf (h : BitVec 16) (payload : List Byte) : Frame :=
  { header := h, payload := payload, crc := crc16 (headerBytes h ++ payload) }

/-- Frame `f` of a record: record bytes 128f … 128f + 127 (R81). -/
def Record.frame (r : Record) (f : Nat) : Frame :=
  let bs := r.bytes
  let payload := (bs.drop (128 * f)).take 128
  frameOf (frameHeader (frameKindAt (frameCount bs.length) f) f payload.length) payload

/-- The frame kind that a frame header's bits 15–14 name. -/
def frameKindOf (f : Frame) : FrameKind := FrameKind.ofCode (f.header.toNat / 16384)

/-- The frame index in a frame header's bits 13–7. -/
def frameIndexOf (f : Frame) : Nat := f.header.toNat / 128 % 128

/-- The CRC check of a frame as received (R48, R93). -/
def frameGood (f : Frame) : Bool := crc16 (headerBytes f.header ++ f.payload) = f.crc

/-! ## Checks on received records (R83, R84) -/

/-- The sources that suit a kind (R83, check 2). -/
def sourceSuits (k : Kind) (source : Nat) : Bool :=
  match k with
  | .presence | .phase | .summary | .verdict | .history => source ≤ 23
  | .setup | .start | .stop | .recall => source = 31

/-- A received PRESENCE's fields, when they hold codes (R84). -/
def readPresence (bs : List Byte) : Option RxBody := do
  let runState ← RunState.ofCode (field bs 9 1)
  let dut ← DutReport.ofCode (field bs 10 1)
  let cause ← ResetCause.ofCode (field bs 11 1)
  if field bs 12 1 ≤ 1 then
    some (.presence { runState, dut, cause, setupHeld := field bs 12 1 = 1,
                      events := (byteAt bs 13).setWidth 7, slips := field bs 14 2 })
  else none

/-- A received SUMMARY's entry e (section 5.6). -/
def readEntry (bs : List Byte) (e : Nat) : SummaryEntry :=
  { peer := field bs (10 + 57 * e) 1,
    values := (List.range 8).map fun k => field bs (11 + 57 * e + 7 * k) 7 }

/-- The entry list is as R84 demands: strictly ascending peer numbers 0 … 23 other than the source, and
every value below 2^52. -/
def entriesOk (source : Nat) (es : List SummaryEntry) : Bool :=
  es.all (fun e => e.peer ≤ 23 && e.peer ≠ source && e.values.all (· < 2 ^ 52))
    && (es.zip es.tail).all (fun p => p.1.peer < p.2.peer)

/-- A received SUMMARY's entries, when length and content are right (R83, R84). -/
def readSummary (source : Nat) (bs : List Byte) : Option RxBody :=
  let count := field bs 9 1
  let es := (List.range count).map (readEntry bs)
  if 10 ≤ bs.length ∧ bs.length = 10 + 57 * count ∧ count ≤ 23 ∧ entriesOk source es then some (.summary es)
  else none

/-- A received VERDICT's fields, when verdict, reason and grade hold codes (R84). -/
def readVerdict (bs : List Byte) : Option RxBody := do
  let verdict ← Verdict.ofCode (field bs 9 1)
  let reason ← Reason.ofCode (field bs 10 1)
  let grade ← Grade.ofCode (field bs 12 1)
  some (.verdict
    { verdict, reason, grade, reasonBand := field bs 11 1, n := field bs 13 1,
      mode := AnalysisMode.ofByte (field bs 14 1), belowFloor := byteAt bs 15,
      runClose := (byteAt bs 16).getLsbD 0, events := (byteAt bs 17).setWidth 7, slips := field bs 18 2,
      y := signedOf (slice bs 20 4), bands := (List.range 8).map fun k => field bs (24 + 4 * k) 4,
      figure := field bs 56 4, separatedCount := field bs 60 2, boundCount := field bs 62 2 })

/-- A received HISTORY's length and counts are right (R83, R84). -/
def readHistory (bs : List Byte) : Option RxBody :=
  let h := field bs 25 1
  let r := field bs (26 + 50 * h) 1
  if 26 + 50 * h < bs.length ∧ bs.length = 27 + 50 * h + 10 * r ∧ h ≤ 8 ∧ r ≤ 23 then some .history
  else none

/-- A received SETUP's fields as sent (R91). -/
def readSetup (bs : List Byte) : SetupFields :=
  { exponent := field bs 9 1, tNom := field bs 10 5, tolerance := field bs 15 3,
    settleEpochs := field bs 18 2, modeByte := field bs 20 1,
    limits := (List.range 8).map fun k => field bs (21 + 3 * k) 3, figureMask := byteAt bs 45,
    figureLimit := field bs 46 3, minEpochs := field bs 49 1, maskByte := byteAt bs 50 }

/-- Checks 3 and 4 of R83 on the bytes of a record of one kind. A PHASE that comes here came as an ONLY
frame, which cannot be a PHASE's length. -/
def readBody (k : Kind) (source : Nat) (bs : List Byte) : Option RxBody :=
  match k with
  | .presence => if bs.length = 16 then readPresence bs else none
  | .phase => none
  | .summary => readSummary source bs
  | .verdict => if bs.length = 64 then readVerdict bs else none
  | .history => readHistory bs
  | .setup => if bs.length = 51 then some (.setup (readSetup bs)) else none
  | .start => if bs.length = 11 then some (.start (field bs 9 1) (byteAt bs 10)) else none
  | .stop => if bs.length = 9 then some .stop else none
  | .recall => if bs.length = 9 then some .recall else none

/-- What the checks of R83 make of a completed record. -/
inductive Checked where
  | passed (r : RxRecord)
  | discarded
  | malformed
deriving DecidableEq, Repr

/-- The checks of R83, in order, on a completed record's bytes. -/
def checkRecord (bs : List Byte) : Checked :=
  let h := Header.ofBytes bs
  match Kind.ofCode h.kind with
  | none => .discarded
  | some k =>
    if sourceSuits k h.source then
      match readBody k h.source bs with
      | none => .malformed
      | some b => .passed ⟨h, b⟩
    else .discarded

/-! ## Setup (R91, R94, R169) -/

/-- The nominal period lies in the range run control accepts (R169). -/
def SetupFields.accepted (f : SetupFields) : Bool :=
  32000 * 65536 ≤ f.tNom && f.tNom ≤ 8000000 * 65536

/-- The effective setup: p, settle epochs and minimum epochs clamped, the mode one of two, the mask's
eighth bit not examined (R169, R156). -/
def SetupFields.effective (f : SetupFields) : Setup :=
  { exponent := max 10 (min 16 f.exponent), tNom := f.tNom, tolerance := f.tolerance,
    settleEpochs := min 255 f.settleEpochs, mode := AnalysisMode.ofByte f.modeByte, limits := f.limits,
    figureMask := f.figureMask, figureLimit := f.figureLimit, minEpochs := max 1 f.minEpochs,
    mask := f.maskByte.setWidth 7 }

/-- The 42 bytes the digest covers (R94). -/
def Setup.bytes (u : Setup) : List Byte :=
  bytesOf 1 u.exponent ++ bytesOf 5 u.tNom ++ bytesOf 3 u.tolerance ++ bytesOf 2 u.settleEpochs
    ++ bytesOf 1 u.mode.code ++ u.limits.flatMap (bytesOf 3) ++ [u.figureMask] ++ bytesOf 3 u.figureLimit
    ++ bytesOf 1 u.minEpochs ++ [u.mask.setWidth 8]

/-- The setup store after a SETUP is accepted (R169, steps 1 and 2). -/
def SetupFields.store (f : SetupFields) : HeldSetup :=
  { setup := f.effective, digest := digestOf f.effective.bytes }

end Sys2Proof.Machine
end

