-- ==== Sys2Proof/Machine/Ops.lean ====
section
/-! DEFINITION. The named operations every block shares: updates of one block, the station's own
number and digest, PRESENCE occasions, record headers, and the shape of a meaning. -/

namespace Sys2Proof.Machine

/-! ## Updates of one block -/

def State.withControl (s : State) (c : Control) : State := { s with control := c }
def State.withCapture (s : State) (c : Capture) : State := { s with capture := c }
def State.withEpochs (s : State) (e : Epochs) : State := { s with epochs := e }
def State.withEngine (s : State) (e : PairEngine) : State := { s with engine := e }
def State.withSolver (s : State) (v : Solver) : State := { s with solver := v }
def State.withVerdicts (s : State) (v : VerdictUnit) : State := { s with verdicts := v }
def State.withRoster (s : State) (r : List RosterEntry) : State := { s with roster := r }
def State.withLink (s : State) (l : Link) : State := { s with link := l }
def State.withQueue (s : State) (q : Queue) : State := { s with queue := q }

/-! ## What several blocks read -/

/-- The station's own digest: that of the setup held, 0x00 while none is held (R82). -/
def State.ownDigest (s : State) : Byte :=
  match s.control.held with
  | some h => h.digest
  | none => 0

/-- The run state is RUNNING. -/
def State.inRun (s : State) : Bool := s.control.state = .running

/-- The analysis mode in use is PERIOD (R159). -/
def State.inPeriod (s : State) : Bool := s.engine.mode = some .period

/-- The link controller is stopped (R43). -/
def State.linkStopped (s : State) : Bool := s.link.mode = .stopped

/-- The DUT state as a record reports it: in RUNNING the state of R12, otherwise the activity
detector's report (R9, R86). -/
def State.dutReport (s : State) : DutReport :=
  let detector : DutReport := if s.capture.active then .active else .absent
  if s.inRun then
    match s.capture.dut with
    | some .absent => .absent
    | some .wrongFrequency => .wrongFrequency
    | some .settling => .settling
    | some .measuring => .measuring
    | none => detector
  else detector

/-- A record that this station makes, with its header (R82). -/
def State.record (s : State) (epoch : Nat) (b : Body) : Record :=
  { header :=
      { kind := b.kind.code, source := s.control.number, target := 0xFF, run := s.epochs.runNumber,
        epoch := epoch, digest := s.ownDigest, frames := frameCount (9 + b.bytes.length) },
    body := b }

/-! ## Events -/

/-- A cause sets an event (R154). -/
def State.raise (s : State) (e : Event) : State := s.withVerdicts (s.verdicts.raise e)

/-- An occasion of R175 arises: one PRESENCE is made when the event's changes are over. -/
def State.presenceDue (s : State) : State := s.withControl { s.control with presenceDue := true }

/-- A change of the reported DUT state within its set of names (R15, R175). -/
def State.dutChanged (s : State) : State := (s.raise .dutChanged).presenceDue

/-- RUN_MISSED is set; a PRESENCE is made when it passes from clear to set (R173, R175). -/
def State.runMissed (s : State) : State :=
  if Event.runMissed.isIn s.verdicts.events then s.raise .runMissed
  else (s.raise .runMissed).presenceDue

/-! ## Void reasons -/

/-- The order of the void reasons, highest first (R22). -/
def VoidReason.rank : VoidReason → Nat
  | .notMeasuring => 2 | .disturbed => 1 | .wander => 0

/-- Raises a void reason on a context: it replaces none or a lower one (R22). -/
def Context.raise (c : Context) (r : VoidReason) : Context :=
  match c.void with
  | none => { c with void := some r }
  | some held => if held.rank < r.rank then { c with void := some r } else c

/-- Raises a void reason on the context in CAPTURE, if there is one (R5, R14, R16). -/
def State.voidCapture (s : State) (r : VoidReason) : State :=
  s.withEpochs { s.epochs with capture := s.epochs.capture.map (·.raise r) }

end Sys2Proof.Machine
end

