-- ==== Sys2Proof/Machine/Roster.lean ====
section
/-! DEFINITION. The peer roster (chapter 6). -/

namespace Sys2Proof.Machine

/-- A new entry (R95). -/
def RosterEntry.fresh (j : Nat) : RosterEntry :=
  { peer := j, state := .unheard, digest := none, run := none, runState := none, dut := none,
    verdictId := none, missed := 0, mismatch := 0, broken := 0, late := 0, duplicate := 0 }

/-- The entry of a number (R95). -/
def rosterFind (es : List RosterEntry) (j : Nat) : Option RosterEntry := es.find? (·.peer = j)

/-- The roster with an entry for `j`, in ascending number, created UNHEARD when there is none (R95). -/
def rosterEnsure (j : Nat) : List RosterEntry → List RosterEntry
  | [] => [RosterEntry.fresh j]
  | e :: es =>
    if j < e.peer then RosterEntry.fresh j :: e :: es
    else if e.peer = j then e :: es
    else e :: rosterEnsure j es

/-- The roster with the entry of `j` changed. -/
def rosterChange (j : Nat) (f : RosterEntry → RosterEntry) (es : List RosterEntry) : List RosterEntry :=
  es.map fun e => if e.peer = j then f e else e

/-- The numbers the roster may hold (R95). -/
def State.mayHold (s : State) (j : Nat) : Bool := j ≤ Config.lastStation && j ≠ s.control.number

/-- An event that concerns the entry of `j`: it creates the entry if there is none and then acts on it;
a number the roster may not hold changes nothing (R95). -/
def State.onPeer (s : State) (j : Nat) (f : RosterEntry → RosterEntry) : State :=
  if s.mayHold j then s.withRoster (rosterChange j f (rosterEnsure j s.roster)) else s

/-- The state a hearing leaves, from whether the digests are equal (R96). -/
def PeerState.afterHearing (p : PeerState) (equal : Bool) : PeerState :=
  if equal then
    match p with
    | .unheard | .alien => .heard
    | .heard => .heard
    | .partner => .partner
    | .quiet => .quiet
    | .suspect => .suspect
  else .alien

/-- The station hears a peer: digest and run number last heard, then the comparison with its own digest
(R96). -/
def State.hear (s : State) (h : Header) : State :=
  s.onPeer h.source fun e =>
    { e with digest := some h.digest, run := some h.run,
             state := e.state.afterHearing (h.digest = s.ownDigest) }

/-- A SETUP accepted compares each entry's digest last heard with the new digest (R96). -/
def State.recheckDigests (s : State) : State :=
  s.withRoster (s.roster.map fun e =>
    match e.digest with
    | some d => { e with state := e.state.afterHearing (d = s.ownDigest) }
    | none => e)

/-- A record of another run is heard outside BARRIER (R173). The run states in which a record is heard
there are AWAIT_SETUP, READY and RUNNING. -/
def State.noteOtherRun (s : State) (h : Header) : State :=
  if h.run ≠ s.epochs.runNumber ∧
      (s.control.state = .awaitSetup ∨ s.control.state = .ready ∨ s.control.state = .running) then
    s.runMissed
  else s

/-- The three counts of troubled records (R100). -/
def State.countBroken (s : State) (j : Nat) : State :=
  s.onPeer j fun e => { e with broken := saturate 65535 e.broken }
def State.countLate (s : State) (j : Nat) : State :=
  s.onPeer j fun e => { e with late := saturate 65535 e.late }
def State.countDuplicate (s : State) (j : Nat) : State :=
  s.onPeer j fun e => { e with duplicate := saturate 65535 e.duplicate }

/-- A PRESENCE heard sets the reported states (R97). -/
def State.notePresence (s : State) (j : Nat) (b : PresenceBody) : State :=
  s.onPeer j fun e => { e with runState := some b.runState, dut := some b.dut }

/-- A VERDICT heard is a duplicate when the entry holds its identity; otherwise that identity is
recorded (R98). -/
def State.noteVerdict (s : State) (h : Header) : State :=
  s.onPeer h.source fun e =>
    if e.verdictId = some (h.run, h.epoch) then { e with duplicate := saturate 65535 e.duplicate }
    else { e with verdictId := some (h.run, h.epoch) }

/-- A SUMMARY of the station's own run and setup makes the peers it names known (R99). -/
def State.noteNamed (s : State) (h : Header) (es : List SummaryEntry) : State :=
  if s.inRun ∧ h.run = s.epochs.runNumber ∧ h.digest = s.ownDigest then
    es.foldl (fun s e => s.onPeer e.peer id) s
  else s

/-- The peer is excused at an exchange deadline (R102). -/
def RosterEntry.excused (e : RosterEntry) (ownRun : Nat) : Bool :=
  (match e.run with | some r => r ≠ ownRun | none => false)
    || (match e.runState with | some st => st ≠ .running | none => false)
    || (match e.dut with | some d => d ≠ .measuring | none => false)

/-- What an exchange deadline does to an entry: its pair entry is DONE, or not and the peer excused, or
not and unexcused (R101). -/
def RosterEntry.deadline (e : RosterEntry) (done : Bool) (ownRun : Nat) : RosterEntry :=
  let missed := saturate 255 e.missed
  if done then
    match e.state with
    | .unheard => e
    | .heard | .partner | .quiet => { e with state := .partner, missed := 0 }
    | .alien | .suspect => { e with missed := 0 }
  else if e.excused ownRun then
    match e.state with
    | .partner | .quiet => { e with state := .heard }
    | .unheard | .heard | .alien | .suspect => e
  else
    match e.state with
    | .unheard => e
    | .heard | .alien | .suspect => { e with missed := missed }
    | .partner => { e with state := .quiet, missed := missed }
    | .quiet => { e with state := if 4 ≤ missed then .heard else .quiet, missed := missed }

/-- The pair entry of `j` in a table is DONE. -/
def doneIn (pairs : List PairEntry) (j : Nat) : Bool :=
  pairs.any fun p => p.peer = j && (match p.state with | .done _ => true | _ => false)

/-- An exchange deadline with its frozen pair table reaches the roster (R101). -/
def State.rosterDeadline (s : State) (frozen : List PairEntry) : State :=
  s.withRoster (s.roster.map fun e => e.deadline (doneIn frozen e.peer) s.epochs.runNumber)

/-- What a measured solve's end does to an entry (R103, R104). -/
def RosterEntry.solved (e : RosterEntry) (charged agreed : List Nat) : RosterEntry :=
  if e.peer ∈ charged then
    let mismatch := saturate 255 e.mismatch
    { e with mismatch := mismatch
             state := if 3 ≤ mismatch ∧ e.state ≠ .alien then .suspect else e.state }
  else if e.peer ∈ agreed then
    { e with mismatch := 0
             state := if e.state = .suspect then
                 (if e.missed = 0 then .partner else if e.missed ≤ 3 then .quiet else .heard)
               else e.state }
  else e

/-- The charged and agreed sets of a solve reach the roster (R140). -/
def State.rosterSolved (s : State) (charged agreed : List Nat) : State :=
  s.withRoster (s.roster.map fun e => e.solved charged agreed)

/-- A START taken prepares the roster (R105). -/
def RosterEntry.started (e : RosterEntry) : RosterEntry :=
  { e with
    state := match e.state with
      | .partner | .quiet => .heard
      | .unheard => .unheard
      | .heard => .heard
      | .alien => .alien
      | .suspect => .suspect
    missed := 0, mismatch := 0, runState := none, dut := none, verdictId := none }

/-- The peers the roster holds SUSPECT (R128). -/
def State.suspects (s : State) : List Nat :=
  (s.roster.filter fun e => e.state = .suspect).map (·.peer)

/-- The roster as a HISTORY carries it (R107). -/
def State.rosterReports (s : State) : List RosterReport :=
  s.roster.map fun e =>
    { peer := e.peer, state := e.state, missed := e.missed, mismatch := e.mismatch, broken := e.broken,
      late := e.late, duplicate := e.duplicate }

end Sys2Proof.Machine
end

