-- ==== Sys2Proof/Machine/Engine.lean ====
section
/-! DEFINITION. The pair engine's arithmetic and pair tables (chapter 7). -/

namespace Sys2Proof.Machine

/-! ## Scale values (R109) -/

/-- The number of terms of scale k (R109). -/
def termCount (k : Nat) : Nat := 2 ^ (11 - k) - 2

/-- The square of a second difference. -/
def squaredTerm (a b d : Int) : Nat := ((d - 2 * b + a).natAbs) ^ 2

/-- The sum of the squared second differences of each three consecutive values. -/
def sumOfTerms : List Int → Nat
  | a :: b :: d :: rest => squaredTerm a b d + sumOfTerms (b :: d :: rest)
  | _ => 0

/-- Every L-th value of a sequence of 2048, L = 2^k (R109). -/
def everyNth (ds : List Int) (k : Nat) : List Int :=
  (List.range (2048 / 2 ^ k)).map fun t => ds.getD (t * 2 ^ k) 0

/-- The scale-k sum S_k of a sequence (R109). -/
def scaleSum (ds : List Int) (k : Nat) : Nat := sumOfTerms (everyNth ds k)

/-- The scale-k value: S_k / M_k to the nearest whole number, halves going up (R109). -/
def scaleValue (sum k : Nat) : Nat := roundHalfUp sum (termCount k)

/-- The eight values of eight sums (R109, R117). -/
def scaleValues (sums : List Nat) : List Nat := (List.range 8).map fun k => scaleValue (sums.getD k 0) k

/-- The self values W_0 … W_7 over an epoch's own residuals (R111). -/
def selfValuesOf (rs : List Int) : List Nat := (List.range 8).map fun k => scaleValue (scaleSum rs k) k

/-! ## Residuals as they arrive (R115, R116) -/

/-- A residual field as the engine reads it: −8,388,608 is read as −8,388,607 (R85). -/
def residualOf (bs : List Byte) : Int := max (-Config.residualBound) (signedOf bs)

/-- The whole residuals at the front of a run of residual bytes, and the bytes of a split one. -/
def splitResiduals : List Byte → List Int × List Byte
  | a :: b :: c :: rest =>
    let (rs, left) := splitResiduals rest
    (residualOf [a, b, c] :: rs, left)
  | left => ([], left)

/-- One scale takes d_i: with two earlier values held it forms a term and drops the older; otherwise it
keeps d_i beside what it holds (R116). -/
def scaleTakes (d : Int) : List Int × Nat → List Int × Nat
  | ([a, b], sum) => ([b, d], sum + squaredTerm a b d)
  | (held, sum) => (held ++ [d], sum)

/-- Every scale k whose span divides i takes d_i (R116). -/
def scalesTake (i : Nat) (d : Int) (held : List (List Int)) (sums : List Nat) : List (List Int) × List Nat :=
  let out := (List.range 8).map fun k =>
    let at_k := (held.getD k [], sums.getD k 0)
    if i % 2 ^ k = 0 then scaleTakes d at_k else at_k
  (out.map (·.1), out.map (·.2))

/-- The residuals of a frame are differenced one after another against the own residuals (R115). -/
def consume (own : List Int) : (rs : List Int) → (next : Nat) → List (List Int) → List Nat →
    Nat × List (List Int) × List Nat
  | [], next, held, sums => (next, held, sums)
  | r :: rs, next, held, sums =>
    let (held, sums) := scalesTake next (own.getD next 0 - r) held sums
    consume own rs (next + 1) held sums

/-! ## Pair tables (R112) -/

/-- A pair table with every peer number of 0 … 23 but the station's own, in NONE (R32). -/
def freshPairs (own : Nat) : List PairEntry :=
  ((List.range 24).filter (· ≠ own)).map fun j => { peer := j, state := .none }

/-- The state of the entry for `j`. -/
def pairOf (pairs : List PairEntry) (j : Nat) : Option PairState :=
  (pairs.find? (·.peer = j)).map (·.state)

/-- The table with the entry for `j` in a new state. -/
def setPair (j : Nat) (st : PairState) (pairs : List PairEntry) : List PairEntry :=
  pairs.map fun p => if p.peer = j then { p with state := st } else p

/-- The DONE entries with their values, in ascending peer number (R120). -/
def donePairs (pairs : List PairEntry) : List SummaryEntry :=
  pairs.filterMap fun p => match p.state with
    | .done vs => some { peer := p.peer, values := vs }
    | _ => none

/-- The freeze: a RECEIVING entry becomes BROKEN, the others stay (R119). -/
def PairState.freeze : PairState → PairState
  | .receiving _ _ => .broken
  | st => st

def freezePairs (pairs : List PairEntry) : List PairEntry :=
  pairs.map fun p => { p with state := p.state.freeze }

/-- The peers whose entry is RECEIVING. -/
def receivingPeers (pairs : List PairEntry) : List Nat :=
  (pairs.filter fun p => match p.state with | .receiving _ _ => true | _ => false).map (·.peer)

/-- The entry for `j` of the EXCHANGE context's table in a new state. -/
def State.setExchangePair (s : State) (j : Nat) (st : PairState) : State :=
  s.withEpochs { s.epochs with
    exchange := s.epochs.exchange.map fun c => { c with pairs := setPair j st c.pairs } }

/-- The current PHASE of peer `j` opens its entry: RECEIVING from zero, the work buffer empty (R114). -/
def State.openPair (s : State) (j : Nat) : State :=
  let s := s.setExchangePair j (.receiving (List.replicate 8 0) 0)
  s.withEngine { s.engine with work := WorkBuffer.empty }

/-- A RECEIVING entry of the EXCHANGE context becomes BROKEN; accumulators, work buffer and a frame in
hand are discarded (R118). -/
def State.breakPair (s : State) (j : Nat) : State :=
  match (s.epochs.exchange.bind fun c => pairOf c.pairs j) with
  | some (.receiving _ _) =>
    let s := s.setExchangePair j .broken
    s.withEngine { s.engine with work := WorkBuffer.empty, inHand := none }
  | _ => s

/-! ## The engine's holds (R121) -/

/-- The solve hold: a measured solve is running (R121, R127). -/
def State.solveHold (s : State) : Bool :=
  match s.solver.running with
  | some r => r.context.void.isNone && !s.inPeriod
  | none => false

/-- The engine takes no frame while a hold stands (R121). -/
def State.engineHeld (s : State) : Bool := s.engine.closeHold || s.solveHold

/-! ## Finishing a frame (R115, R117) -/

/-- The engine finishes the frame in hand: its residuals are folded into the scale sums; a LAST frame of
nine bytes makes the entry DONE with its eight values, and one of another length makes it BROKEN and
the record is reported broken (R85, R115 to R118). -/
def State.finishFrame (s : State) : State :=
  match s.engine.inHand with
  | none => s
  | some f =>
    match (s.epochs.exchange.bind fun c => pairOf c.pairs f.peer), s.engine.ownStore with
    | some (.receiving sums next), some own =>
      let (rs, left) := splitResiduals (s.engine.work.split ++ f.bytes)
      let (next, held, sums) := consume own.residuals rs next s.engine.work.held sums
      if f.last then
        if f.bytes.length = 9 then
          (s.setExchangePair f.peer (.done (scaleValues sums))).withEngine
            { s.engine with work := WorkBuffer.empty, inHand := none }
        else (s.breakPair f.peer).countBroken f.peer
      else
        (s.setExchangePair f.peer (.receiving sums next)).withEngine
          { s.engine with work := { held := held, split := left }, inHand := none }
    | _, _ => s.withEngine { s.engine with inHand := none }

/-- A context's self values are written together (R111). -/
def Context.writeSelf (c : Context) (epoch : Nat) (ws : List Nat) : Context :=
  if c.epoch = epoch then { c with selfValues := some ws } else c

/-- The self-value computation ends: W_0 … W_7 go into the context, and the close hold ends (R111,
R121). -/
def State.finishSelf (s : State) : State :=
  match s.engine.selfFor, s.engine.ownStore with
  | some epoch, some own =>
    let ws := selfValuesOf own.residuals
    let s := s.withEpochs { s.epochs with
      exchange := s.epochs.exchange.map (·.writeSelf epoch ws) }
    s.withEngine { s.engine with selfFor := none, closeHold := false }
  | some _, none => s.withEngine { s.engine with selfFor := none, closeHold := false }
  | none, _ => s

/-- The places of the accumulator memory that tables take: the EXCHANGE and SUMMARY_WAIT contexts' and
those of the solves in hand; in a PERIOD run the epoch statistics take one instead (R122, R123). -/
def State.placesTaken (s : State) : Nat :=
  match s.engine.mode with
  | none => 0
  | some .period => if s.engine.stats.isSome then 1 else 0
  | some .hat =>
    (if s.epochs.exchange.isSome then 1 else 0) + (if s.epochs.summaryWait.isSome then 1 else 0)
      + (if s.solver.running.isSome then 1 else 0) + s.solver.waiting.length

end Sys2Proof.Machine
end

