-- ==== Sys2Proof/Machine/Lines.lean ====
section
/-! DEFINITION. What the station drives on the four lines of the cohort link (R43, R46). -/

namespace Sys2Proof.Machine

/-- The FIFO claim on WAIT: the FIFO holds four frames (R51). -/
def Link.fifoClaim (l : Link) : Bool := Config.fifoPlaces ≤ l.fifo.length

/-- The station asserts WAIT while it holds a claim, but not while CLEAR is asserted, when stopped, or in
reset (R43, R51, R168). -/
def State.drivesWait (s : State) : Bool :=
  s.hold = .free && !s.linkStopped && !s.link.clearSeen
    && (s.link.fifoClaim || s.control.barrier.claim)

/-- The station asserts OPEN through its field, through each of its frames, and from a start bit until it
has taken the frame (R46). -/
def State.drivesOpen (s : State) : Bool :=
  match s.link.mode with
  | .contending _ | .sending _ _ .inFrame | .listening .inFrame => true
  | _ => false

/-- The station's own CLEAR pulse (R61). -/
def State.drivesClear (s : State) : Bool := s.link.clearPulse

/-- What the station sends on LINK: nothing, the ten bits of its arbitration field, or a frame. A 0 is
driven dominant, a 1 is left recessive (R43, R66). -/
inductive LinkDrive where
  | released
  | field (bits : BitVec 10)
  | frame (f : Frame)
deriving DecidableEq, Repr

/-- A slot of the queue. -/
def Queue.get (q : Queue) : SlotKind → Slot
  | .presence => q.presence | .summary => q.summary | .phase => q.phase | .verdict => q.verdict
  | .history => q.history

/-- The record a slot holds. -/
def SlotState.record? : SlotState → Option Record
  | .empty => none
  | .unsent r => some r
  | .onLink r _ _ => some r

/-- The station's drive of LINK (R46, R53, R66). -/
def State.drivesLink (s : State) : LinkDrive :=
  match s.link.mode with
  | .contending bits => .field bits
  | .sending k i .inFrame =>
    match (s.queue.get k).state.record? with
    | some r => .frame (r.frame i)
    | none => .released
  | _ => .released

end Sys2Proof.Machine
end

