-- ==== Sys2Proof/Machine/Sending.lean ====
section
/-! DEFINITION. The outgoing queue and the sending of records (chapter 4, R53, R60, R61). -/

namespace Sys2Proof.Machine

/-! ## Slots -/

/-- The queue with one slot replaced. -/
def Queue.set (q : Queue) (k : SlotKind) (sl : Slot) : Queue :=
  match k with
  | .presence => { q with presence := sl }
  | .summary => { q with summary := sl }
  | .phase => { q with phase := sl }
  | .verdict => { q with verdict := sl }
  | .history => { q with history := sl }

/-- A withdrawal of a PHASE or SUMMARY is counted (R79). No other kind is withdrawn. -/
def LinkCounts.withdraw (c : LinkCounts) : SlotKind → LinkCounts
  | .summary => { c with summaryWithdrawn := saturate 65535 c.summaryWithdrawn }
  | .phase => { c with phaseWithdrawn := saturate 65535 c.phaseWithdrawn }
  | _ => c

/-- A VERDICT replaced or discarded is counted (R79). -/
def LinkCounts.supersede (c : LinkCounts) : LinkCounts :=
  { c with verdictSuperseded := saturate 65535 c.verdictSuperseded }

/-- A CLEAR this station issues is counted against the kind ON_LINK (R79). -/
def LinkCounts.clear (c : LinkCounts) : SlotKind → LinkCounts
  | .presence => { c with clearPresence := saturate 65535 c.clearPresence }
  | .summary => { c with clearSummary := saturate 65535 c.clearSummary }
  | .phase => { c with clearPhase := saturate 65535 c.clearPhase }
  | .verdict => { c with clearVerdict := saturate 65535 c.clearVerdict }
  | .history => { c with clearHistory := saturate 65535 c.clearHistory }

/-- The VERDICT is flagged run-close (R89). -/
def Record.isRunClose (r : Record) : Bool :=
  match r.body with
  | .verdict b => b.runClose
  | _ => false

/-- A record `v` meets a waiting record `u` of its kind, in the slot or as the successor: which of the
two stays, and what is counted (R73, R74). A SUMMARY or HISTORY cannot meet one (R73); the model lets a
SUMMARY go the way of a PHASE and keeps the waiting HISTORY. -/
def settle (k : SlotKind) (u v : Record) (c : LinkCounts) : Record × LinkCounts :=
  match k with
  | .presence => (v, c)
  | .summary => (v, c.withdraw .summary)
  | .phase => (v, c.withdraw .phase)
  | .verdict => if u.isRunClose then (u, c.supersede) else (v, c.supersede)
  | .history => (u, c)

/-- A record offered to its slot (R73, R74). -/
def Slot.offer (k : SlotKind) (r : Record) (sl : Slot) (c : LinkCounts) : Slot × LinkCounts :=
  match sl.state with
  | .empty => ({ sl with state := .unsent r }, c)
  | .unsent u => let (w, c) := settle k u r c; ({ sl with state := .unsent w }, c)
  | .onLink _ _ _ =>
    match sl.successor with
    | none => ({ sl with successor := some r }, c)
    | some u => let (w, c) := settle k u r c; ({ sl with successor := some w }, c)

/-- The successor takes the slot that its predecessor has left (R74). -/
def Slot.takeSuccessor (k : SlotKind) (sl : Slot) (c : LinkCounts) : Slot × LinkCounts :=
  match sl.successor with
  | none => (sl, c)
  | some r => Slot.offer k r { sl with successor := none } c

/-- The record ON_LINK completes at the sender: the slot passes to EMPTY and the successor enters it
(R74). -/
def Slot.complete (k : SlotKind) (sl : Slot) (c : LinkCounts) : Slot × LinkCounts :=
  Slot.takeSuccessor k { sl with state := .empty } c

/-- The record ON_LINK is aborted: it returns UNSENT, or is withdrawn and counted if it is past deadline
(R75, R77), or leaves the slot EMPTY uncounted if its run has ended (R80); then the successor takes the
slot (R74). -/
def Slot.abort (k : SlotKind) (sl : Slot) (c : LinkCounts) : Slot × LinkCounts :=
  match sl.state with
  | .onLink _ _ true => Slot.takeSuccessor k { sl with state := .empty } c
  | .onLink _ true false => Slot.takeSuccessor k { sl with state := .empty } (c.withdraw k)
  | .onLink r false false => Slot.takeSuccessor k { sl with state := .unsent r } c
  | _ => (sl, c)

/-- The deadline of the record of one epoch (R75): UNSENT or waiting as the successor it is withdrawn and
counted, ON_LINK it is marked past deadline. -/
def Slot.deadline (k : SlotKind) (epoch : Nat) (sl : Slot) (c : LinkCounts) : Slot × LinkCounts :=
  let (state, c) := match sl.state with
    | .unsent r => if r.header.epoch = epoch then (SlotState.empty, c.withdraw k) else (sl.state, c)
    | .onLink r past ended => (.onLink r (past || decide (r.header.epoch = epoch)) ended, c)
    | .empty => (sl.state, c)
  match sl.successor with
  | some r =>
    if r.header.epoch = epoch then ({ state := state, successor := none }, c.withdraw k)
    else ({ sl with state := state }, c)
  | none => ({ sl with state := state }, c)

/-- The run's end at a PHASE or SUMMARY slot: emptied if UNSENT, marked if ON_LINK, no successor; nothing
is counted (R80). -/
def Slot.endRun (sl : Slot) : Slot :=
  { state := match sl.state with
      | .unsent _ => .empty
      | .onLink r past _ => .onLink r past true
      | .empty => .empty
    successor := none }

/-- Both slots that a run's end concerns (R80). -/
def Queue.endRun (q : Queue) : Queue :=
  { q with phase := q.phase.endRun, summary := q.summary.endRun }

/-- The slot holds a record not yet on the link. -/
def Slot.isUnsent (sl : Slot) : Bool :=
  match sl.state with
  | .unsent _ => true
  | _ => false

/-- The UNSENT slot of highest kind priority (R72). -/
def Queue.best (q : Queue) : Option SlotKind :=
  [SlotKind.presence, .summary, .phase, .verdict, .history].find? fun k => (q.get k).isUnsent

/-- One slot of the queue acts under a rule of this section; the link counts follow. -/
def State.onSlot (s : State) (k : SlotKind) (act : Slot → LinkCounts → Slot × LinkCounts) : State :=
  let (sl, c) := act (s.queue.get k) s.link.counts
  (s.withQueue (s.queue.set k sl)).withLink { s.link with counts := c }

/-! ## Gaining the link -/

/-- The contender's key (R67). -/
def arbitrationKey (number lastWinner : Nat) : Nat := (number + 31 - lastWinner) % 32

/-- The ten bits of an arbitration field: key, then number, most significant first (R66, R67). -/
def arbitrationField (number lastWinner : Nat) : BitVec 10 :=
  BitVec.ofNat 10 (arbitrationKey number lastWinner * 32 + number % 32)

/-- The station begins its field and enters CONTENDING; the key is formed here (R65, R67). -/
def State.beginField (s : State) : State :=
  s.withLink { s.link with
    mode := .contending (arbitrationField s.control.number s.link.lastWinner), quiet := 0 }

/-- The station can begin a field: some slot is UNSENT, and neither WAIT of its own nor CLEAR keeps the
quiet count at 0 (R44, R65). -/
def State.mayContend (s : State) : Bool :=
  s.queue.best.isSome && !s.drivesWait && !s.link.clearSeen

/-- A slot that becomes UNSENT in IDLE_WAIT while the quiet count stands at 64 or more starts a field
(R65). The field begins at the next REFCLK edge, and R67 leaves open whether its key sees a last-winner value
that the same event changes after the offer. DESIGN CHOICE: the key is formed here, at the offer, from the
last winner as it then stands (notes/assumptions/35.md). -/
def State.contendIfQuiet (s : State) : State :=
  if s.link.mode = .idleWait ∧ Config.idleGap ≤ s.link.quiet ∧ s.mayContend then s.beginField else s

/-- A maker offers a record to the queue. While the link controller is stopped the record is discarded
uncounted (R73). -/
def State.offer (s : State) (k : SlotKind) (r : Record) : State :=
  if s.linkStopped then s else (s.onSlot k (Slot.offer k r)).contendIfQuiet

/-- The PRESENCE of the station as it stands (R86). -/
def State.presence (s : State) : Record :=
  s.record s.epochs.counter (.presence
    { runState := s.control.state, dut := s.dutReport, cause := s.control.cause,
      setupHeld := s.control.held.isSome, events := 0, slips := s.capture.slips })

/-- One PRESENCE is made after all of an event's changes, when an occasion arose; a station in
STRAP_FAULT or CONFLICT makes none (R175). -/
def State.settlePresence (s : State) : State :=
  if s.control.presenceDue then
    let s := s.withControl { s.control with presenceDue := false }
    if s.control.state = .strapFault ∨ s.control.state = .conflict then s
    else s.offer .presence s.presence
  else s

/-- The shape of a meaning: while a reset holds the station an event changes nothing; otherwise its
changes are made, and then a PRESENCE if one is due (R168, R175). -/
def State.event (s : State) (act : State → State) : Host.Outcome State Fault Refusal :=
  if s.hold = .free then .next (act s).settlePresence else .next s

/-- The meaning of a command whose operand must be one that the event can carry. -/
def State.checkedEvent (s : State) (ok : Bool) (act : State → State) :
    Host.Outcome State Fault Refusal :=
  if ok then s.event act else .fault .impossibleOperand

/-! ## Sending -/

/-- A record with an event-status snapshot written into it (R76). -/
def Record.withEvents (r : Record) (es : Events) : Record :=
  match r.body with
  | .presence b => { r with body := .presence { b with events := es } }
  | .verdict b => { r with body := .verdict { b with events := es } }
  | _ => r

/-- The kind carries a snapshot (R76). -/
def SlotKind.carriesSnapshot : SlotKind → Bool
  | .presence | .verdict => true
  | _ => false

/-- The winner's slot becomes ON_LINK and its first frame begins; a PRESENCE or VERDICT takes its
snapshot at this start bit (R68, R76). -/
def State.beginRecord (s : State) (k : SlotKind) : State :=
  match (s.queue.get k).state with
  | .unsent r =>
    let r := r.withEvents s.verdicts.events
    let s := s.withQueue (s.queue.set k { s.queue.get k with state := .onLink r false false })
    let s := if k.carriesSnapshot then s.withVerdicts s.verdicts.takeSnapshot else s
    s.withLink { s.link with mode := .sending k 0 .inFrame, quiet := 0 }
  | _ => s

/-- Frames of the record that a slot has on the link (R81). -/
def State.framesOf (s : State) (k : SlotKind) : Nat :=
  match (s.queue.get k).state.record? with
  | some r => r.header.frames
  | none => 0

/-- The verdict that an epoch VERDICT reports when it completes (R146). -/
def Record.reported (r : Record) : Option Verdict :=
  match r.body with
  | .verdict b => if b.runClose then none else some b.verdict
  | _ => none

/-- The record completes at the sender: last winner, queue and verdict unit, IDLE_WAIT (R60); the CLEAR
run and the link fault flag end (R78). -/
def State.senderComplete (s : State) (k : SlotKind) : State :=
  let reported := ((s.queue.get k).state.record?).bind Record.reported
  let s := s.withLink { s.link with lastWinner := s.control.number, clearRun := 0, faultFlag := false }
  let s := s.onSlot k (Slot.complete k)
  let s := if k.carriesSnapshot then s.withVerdicts (s.verdicts.complete reported) else s
  s.withLink { s.link with mode := .idleWait, quiet := 0 }

/-- OPEN is seen released after a frame: the frame is delivered, and the record completes or waits for
the frame gap (R53, R60). -/
def State.delivered (s : State) (k : SlotKind) (index : Nat) : State :=
  if s.framesOf k ≤ index + 1 then s.senderComplete k
  else s.withLink { s.link with mode := .sending k index .awaitingGap, quiet := 0 }

/-- The station issues a CLEAR while it sends: the pulse begins, the CLEAR is counted, and the eighth
CLEAR of a run raises the link fault (R61, R78, R79). Its effect on the link controller is that of
CLEAR_SEEN. -/
def State.issueClear (s : State) (k : SlotKind) (index : Nat) : State :=
  let run := saturate 8 s.link.clearRun
  let rises := decide (run = 8) && !s.link.faultFlag
  let s := s.withLink { s.link with
    mode := .sending k index .ceased, quiet := 0, clearPulse := true, clearRun := run,
    faultFlag := s.link.faultFlag || rises, counts := s.link.counts.clear k }
  if rises then s.raise .linkFault else s

end Sys2Proof.Machine
end

