-- ==== Sys2Proof/Machine/Assembly.lean ====
section
/-! DEFINITION. Frames in and records out: the receive FIFO, record assembly, and the classification of
PHASE records (R36, R37, R48 to R50, R56 to R59). -/

namespace Sys2Proof.Machine

/-! ## Breaking and abandoning the open record -/

/-- The record open in assembly is broken: it is closed, a current PHASE's pair entry becomes BROKEN, and
the roster counts it unless it has counted it already (R57, R58, R100). -/
def State.breakOpen (s : State) : State :=
  match s.link.opened with
  | none => s
  | some o =>
    let s := s.withLink { s.link with opened := none }
    let s := if o.holding = .current then s.breakPair o.header.source else s
    if o.counted then s else s.countBroken o.header.source

/-- Break the open record after an entry marked *followed by a lost frame* (R57). -/
def State.afterEntry (s : State) (e : FifoEntry) : State := if e.lost then s.breakOpen else s

/-- The oldest FIFO entry leaves. -/
def State.popFifo (s : State) : State := s.withLink { s.link with fifo := s.link.fifo.tail }

/-- The PHASE `o`, open in assembly, is discarded with its FIRST frame at the oldest end of the FIFO, which
leaves at once (R50, R121). -/
def State.discardFirst (s : State) (o : OpenRecord) (counted : Bool) : State :=
  let s := s.withLink { s.link with
    opened := some { o with taken := 1, holding := .discarded, counted := counted } }
  match s.link.fifo with
  | e :: _ => s.popFifo.afterEntry e
  | [] => s

/-- A current PHASE is abandoned: it stays open, and its frames, a FIRST frame still in the FIFO among them,
are discarded (R58, R119). `counted` says that the roster has counted it now (R100). -/
def State.abandonOpen (s : State) (counted : Bool) : State :=
  match s.link.opened with
  | some o =>
    if o.holding = .current then
      if o.taken = 0 then s.discardFirst o (o.counted || counted)
      else
        s.withLink { s.link with
          opened := some { o with holding := .discarded, counted := o.counted || counted } }
    else s
  | none => s

/-! ## Completion -/

/-- The last-winner value after a record completes at a listener (R69). -/
def State.noteWinner (s : State) (source : Nat) : State :=
  if source ≤ 31 then s.withLink { s.link with lastWinner := source } else s

/-- Record assembly hands on. A frame that the pair engine still has in hand is then an earlier PHASE's LAST
frame, and it is finished before: its entry is DONE by the time any later record is handed on (R117;
notes/assumptions/12.md). -/
def State.giveOn (s : State) (h : HandOn) : State :=
  let s := s.finishFrame
  s.withLink { s.link with handOn := some h }

/-- A record whose frames went through the assembly buffer completes: the number-conflict test, the last
winner, the checks, and the hand-on (R59, R71, R83). -/
def State.completeBuffered (s : State) (bs : List Byte) : State :=
  let h := Header.ofBytes bs
  if h.source = s.control.number then s.giveOn .conflict
  else
    let s := s.noteWinner h.source
    match checkRecord bs with
    | .passed r => s.giveOn (.record r)
    | .discarded => s
    | .malformed => s.countBroken h.source

/-- The length of a PHASE: 128 × (c − 1) and the LAST frame's payload are 6,153 bytes (R81, R83). -/
def phaseLengthOk (frames lastLength : Nat) : Bool := 128 * (frames - 1) + lastLength = 6153

/-- A PHASE whose frames were discarded completes: number conflict, last winner, and the checks that
still report it broken; it is handed to no consumer (R58, R71, R85). -/
def State.completeDiscarded (s : State) (o : OpenRecord) (lastLength : Nat) : State :=
  if o.header.source = s.control.number then s.giveOn .conflict
  else
    let s := s.noteWinner o.header.source
    if o.header.source ≤ 23 ∧ ¬ phaseLengthOk o.header.frames lastLength ∧ ¬ o.counted then
      s.countBroken o.header.source
    else s

/-! ## Frames in sequence (R56) -/

/-- An ONLY frame forms a whole record: index 0, at least 9 bytes, frame count 1. -/
def GoodFrame.onlyOk (f : GoodFrame) : Bool :=
  f.index = 0 && 9 ≤ f.payload.length && (Header.ofBytes f.payload).frames = 1

/-- A FIRST frame opens a record: index 0, 128 bytes, frame count 2 … 128. -/
def GoodFrame.firstOk (f : GoodFrame) : Bool :=
  f.index = 0 && f.payload.length = Config.fullPayload && 2 ≤ (Header.ofBytes f.payload).frames
    && (Header.ofBytes f.payload).frames ≤ 128

/-- A MIDDLE or LAST frame follows the frames accepted so far; a record of a kind other than PHASE has
room for it in the assembly buffer. -/
def GoodFrame.nextOk (f : GoodFrame) (o : OpenRecord) : Bool :=
  f.index = o.taken
    && (match f.kind with
        | .middle => f.index + 1 < o.header.frames && f.payload.length = Config.fullPayload
        | .last => f.index + 1 = o.header.frames
        | _ => false)
    && (match o.holding with
        | .buffered _ => o.taken < Config.bufferFrames
        | _ => true)

/-- A MIDDLE or LAST frame of an open record whose frames do not go to the pair engine (R56). -/
def State.acceptNext (s : State) (o : OpenRecord) (f : GoodFrame) : State :=
  if f.nextOk o then
    match f.kind, o.holding with
    | .last, .buffered bs => (s.withLink { s.link with opened := none }).completeBuffered (bs ++ f.payload)
    | .last, _ => (s.withLink { s.link with opened := none }).completeDiscarded o f.payload.length
    | _, .buffered bs =>
      s.withLink { s.link with
        opened := some { o with taken := o.taken + 1, holding := .buffered (bs ++ f.payload) } }
    | _, _ => s.withLink { s.link with opened := some { o with taken := o.taken + 1 } }
  else s.breakOpen

/-- A FIRST frame is accepted or discarded; either way it breaks the record open before it. A PHASE waits
for its classification with its FIRST frame still in the FIFO; any other kind goes into the assembly
buffer at once (R56, R57, R115). The flag says that the frame stays. -/
def State.acceptFirst (s : State) (f : GoodFrame) : State × Bool :=
  let s := s.breakOpen
  let h := Header.ofBytes f.payload
  if f.firstOk then
    if h.kind = Kind.phase.code then
      (s.withLink { s.link with
        opened := some { header := h, taken := 0, holding := .unclassified, counted := false } }, true)
    else
      (s.withLink { s.link with
        opened := some { header := h, taken := 1, holding := .buffered f.payload, counted := false } },
       false)
  else (s, false)

/-- The FIRST frame of the record open in assembly is still in the FIFO. -/
def State.firstWaits (s : State) : Bool :=
  match s.link.opened with
  | some o => o.taken = 0
  | none => false

/-- The open record's frames go to the pair engine. -/
def State.engineConsumes (s : State) : Bool :=
  match s.link.opened with
  | some o => o.holding = .current
  | none => false

/-- Record assembly handles FIFO entries, oldest first, until one has to wait: for the hand-on of a
completed record, for the classification of a PHASE, or for the pair engine (R50, R56, R59). A frame of
a kind that begins a record, and a bad frame, leave at once whatever holds stand (R121). -/
def drainFrom : List FifoEntry → State → State
  | [], s => s.withLink { s.link with fifo := [] }
  | e :: rest, s =>
    if s.link.handOn.isSome ∨ s.firstWaits then s.withLink { s.link with fifo := e :: rest }
    else
      match e.frame with
      | none => drainFrom rest s.breakOpen
      | some f =>
        match f.kind with
        | .only =>
          let s := s.breakOpen
          let s := if f.onlyOk then s.completeBuffered f.payload else s
          drainFrom rest (s.afterEntry e)
        | .first =>
          match s.acceptFirst f with
          | (s, true) => s.withLink { s.link with fifo := e :: rest }
          | (s, false) => drainFrom rest (s.afterEntry e)
        | .middle | .last =>
          match s.link.opened with
          | none => drainFrom rest s
          | some o =>
            if o.holding = .current then s.withLink { s.link with fifo := e :: rest }
            else drainFrom rest ((s.acceptNext o f).afterEntry e)

/-- Record assembly goes on with what the FIFO holds. -/
def State.drain (s : State) : State := drainFrom s.link.fifo s

/-- The FIFO is emptied and the record open in assembly is broken (R52, R62). -/
def State.emptyFifo (s : State) : State :=
  (s.withLink { s.link with fifo := [] }).breakOpen

/-! ## Taking a frame (R48, R49) -/

/-- The FIFO entry of a frame as received (R48, R50). -/
def FifoEntry.ofFrame (f : Frame) : FifoEntry :=
  { frame :=
      if frameGood f then some { kind := frameKindOf f, index := frameIndexOf f, payload := f.payload }
      else none
    lost := false }

/-- The newest entry is marked *followed by a lost frame* (R49). -/
def markLost : List FifoEntry → List FifoEntry
  | [] => []
  | [e] => [{ e with lost := true }]
  | e :: es => e :: markLost es

/-- The FIFO after a take: the frame joins it, or is lost in an overrun (R49). -/
def takeInto (fifo : List FifoEntry) (f : Frame) : List FifoEntry :=
  if fifo.length < Config.fifoPlaces then fifo ++ [FifoEntry.ofFrame f] else markLost fifo

/-- The frame ends the record for this listener: a good LAST or ONLY frame (R46). -/
def frameEndsRecord (f : Frame) : Bool :=
  frameGood f && (frameKindOf f = .last || frameKindOf f = .only)

/-! ## Classification of a PHASE (R36, R37) -/

/-- The classes of R37, and *refused* for a record that fails R36. -/
inductive PhaseClass where
  | refused | current | duplicate | unpaired | early | late
deriving DecidableEq, Repr

/-- The three conditions of R36. -/
def State.judges (s : State) (h : Header) : Bool :=
  s.inRun && h.run = s.epochs.runNumber && h.digest = s.ownDigest

/-- The class of a PHASE (R37). -/
def State.classifyPhase (s : State) (h : Header) : PhaseClass :=
  if !s.judges h then .refused
  else if s.inPeriod then .unpaired
  else if s.epochs.counter ≤ h.epoch then .early
  else if h.epoch + 1 < s.epochs.counter then .late
  else
    match s.epochs.exchange with
    | none => .late
    | some c =>
      if c.epoch ≠ h.epoch then .late
      else if c.void.isSome then .unpaired
      else match pairOf c.pairs h.source with
        | some (.done _) => .duplicate
        | _ => .current

/-- The header check of a PHASE at its FIRST frame (R85). -/
def State.phaseHeaderOk (s : State) (h : Header) : Bool :=
  h.source ≤ 23 && h.source ≠ s.control.number && h.frames = 49

/-- How the consumer holds the open record from now on. -/
def State.holdOpen (s : State) (g : Holding) : State :=
  match s.link.opened with
  | some o => s.withLink { s.link with opened := some { o with holding := g } }
  | none => s

end Sys2Proof.Machine
end

