-- ==== Sys2Proof/Machine/Solving.lean ====
section
/-! DEFINITION. The separation solver (chapter 8). -/

namespace Sys2Proof.Machine

/-- A set of eight values, one per scale. -/
abbrev Values := List Nat

/-- The value of a scale. -/
def valueAt (vs : Values) (k : Nat) : Nat := vs.getD k 0

/-- The station's own DONE values for `j` (R130, test a). -/
def ownValues (c : Context) (j : Nat) : Option Values :=
  match pairOf c.pairs j with
  | some (.done vs) => some vs
  | _ => none

/-- The summary a store holds from `j` (R130, test b). -/
def summaryFrom (c : Context) (j : Nat) : Option Summary := c.summaries.find? (·.source = j)

/-- A row's values for `j`. -/
def Summary.valuesFor (m : Summary) (j : Nat) : Option Values :=
  (m.entries.find? (·.peer = j)).map (·.values)

/-- `j`'s row entry for `k`. -/
def rowValues (c : Context) (j k : Nat) : Option Values :=
  (summaryFrom c j).bind fun m => m.valuesFor k

/-- The outcomes of test (c) (R131); *untested* fails (a) or (b). -/
inductive Agreement where
  | untested | agrees | mismatch | silent
deriving DecidableEq, Repr

/-- Test (c) for a peer (R131). -/
def agreementOf (own : Nat) (c : Context) (j : Nat) : Agreement :=
  match ownValues c j, summaryFrom c j with
  | some vs, some m =>
    match m.valuesFor own with
    | some ws => if vs = ws then .agrees else .mismatch
    | none => .silent
  | _, _ => .untested

/-- The peer numbers, ascending. -/
def peersOf (own : Nat) : List Nat := (List.range 24).filter (· ≠ own)

/-- The agreed set (R131). -/
def agreedSet (own : Nat) (c : Context) : List Nat :=
  (peersOf own).filter fun j => agreementOf own c j = .agrees

/-- The candidates other than the station: they agree and were not SUSPECT (R130). -/
def candidates (own : Nat) (c : Context) (suspects : List Nat) : List Nat :=
  (agreedSet own c).filter (· ∉ suspects)

/-- What the two rows that may carry a pair say of it (R132). -/
inductive PairChoice where
  | value (vs : Values)
  | contradicted
  | absent
deriving DecidableEq, Repr

/-- The choice of a pair's value (R132). -/
def choosePair (c : Context) (j k : Nat) : PairChoice :=
  match rowValues c j k, rowValues c k j with
  | some vs, some ws => if vs = ws then .value vs else .contradicted
  | some vs, none => .value vs
  | none, some ws => .value ws
  | none, none => .absent

/-- The unordered pairs of a list, each with the earlier member first. -/
def pairsOf : List Nat → List (Nat × Nat)
  | [] => []
  | j :: rest => rest.map (fun k => (j, k)) ++ pairsOf rest

/-- The pair has no value (R132). -/
def isMissing (c : Context) (p : Nat × Nat) : Bool :=
  match choosePair c p.1 p.2 with
  | .value _ => false
  | _ => true

/-- The charged set: mismatches of test (c), and both members of every contradicted pair of candidates
(R131, R132). -/
def chargedSet (own : Nat) (c : Context) (suspects : List Nat) : List Nat :=
  let contradicted := (pairsOf (candidates own c suspects)).filter fun p =>
    choosePair c p.1 p.2 = .contradicted
  (peersOf own).filter fun j =>
    agreementOf own c j = .mismatch || contradicted.any fun p => p.1 = j || p.2 = j

/-- Pruning (R133): while a pair is missing, the first missing pair, by lower and then by higher number,
loses its higher member. `fuel` bounds the removals. -/
def prune (c : Context) : (fuel : Nat) → List Nat → List Nat
  | 0, cs => cs
  | fuel + 1, cs =>
    match (pairsOf cs).find? (isMissing c) with
    | none => cs
    | some p => prune c fuel (cs.filter (· ≠ p.2))

/-- The solving set's members other than the station, ascending (R134). -/
def solvingPeers (own : Nat) (c : Context) (suspects : List Nat) : List Nat :=
  prune c 23 (candidates own c suspects)

/-- The row sum A at a scale (R135). -/
def rowSum (c : Context) (peers : List Nat) (k : Nat) : Nat :=
  (peers.map fun j => valueAt ((ownValues c j).getD []) k).sum

/-- The pair value chosen under R132, at a scale. -/
def chosenValue (c : Context) (p : Nat × Nat) (k : Nat) : Nat :=
  match choosePair c p.1 p.2 with
  | .value vs => valueAt vs k
  | _ => 0

/-- The pair total P at a scale (R135). -/
def pairTotal (c : Context) (peers : List Nat) (k : Nat) : Nat :=
  rowSum c peers k + ((pairsOf peers).map fun p => chosenValue c p k).sum

/-- The numerator (N − 1) × A − P (R136). -/
def numerator (n a p : Nat) : Int := ((n - 1) * a : Nat) - (p : Int)

/-- Q_k of a separation: the numerator over (N − 1) × (N − 2), rounded with halves up, or 0 (R136). -/
def separated (n a p : Nat) : Nat :=
  if 0 < numerator n a p then roundHalfUp (numerator n a p).toNat ((n - 1) * (n - 2)) else 0

/-- The eight values Q_0 … Q_7 of a measured solve (R136, R137). -/
def solveValues (c : Context) (peers : List Nat) : Values :=
  (List.range 8).map fun k =>
    match peers with
    | [] =>
      match c.selfValues with
      | some ws => valueAt ws k
      | none => Config.unformedSelfValue k
    | [j] => valueAt ((ownValues c j).getD []) k
    | _ => separated (peers.length + 1) (rowSum c peers k) (pairTotal c peers k)

/-- The marks of bands that satisfy a test. -/
def maskWhere (test : Nat → Bool) : BandMask :=
  (List.range 8).foldl (fun m k => if test k then m ||| (1#8 <<< k) else m) 0

/-- The below-floor mask: the bands whose numerator is negative; empty unless N is 3 or more (R136). -/
def belowFloorMask (c : Context) (peers : List Nat) : BandMask :=
  maskWhere fun k => 2 ≤ peers.length
    && numerator (peers.length + 1) (rowSum c peers k) (pairTotal c peers k) < 0

/-- The grade of a solving set of N members (R134). -/
def gradeOf (n : Nat) : Grade :=
  if 3 ≤ n then .separated else if n = 2 then .pairBound else .referenceBound

/-- ΣQ over the bands of a mask (R138). -/
def figureSum (mask : BandMask) (qs : Values) : Nat :=
  (((List.range 8).filter fun k => mask.getLsbD k).map fun k => valueAt qs k).sum

/-- What a solve hands the verdict unit (R127, R139). `q`, `figure` and the mask are those of the
solve; `bands` and `j` are B_k and J as reported. -/
structure SolveResult where
  epoch : Nat
  void : Option VoidReason
  y : Option Int
  grade : Grade
  n : Nat
  q : Values
  figure : Nat
  bands : Values
  j : Nat
  belowFloor : BandMask
  period : Option PeriodValues
deriving DecidableEq, Repr

/-- The result of a void solve (R33, R127). -/
def voidResult (c : Context) : SolveResult :=
  { epoch := c.epoch, void := c.void, y := if c.void = some .notMeasuring then none else c.y,
    grade := .none, n := 0, q := List.replicate 8 0, figure := 0, bands := List.replicate 8 0, j := 0,
    belowFloor := 0, period := none }

/-- The result of a period solve: Q_0 the variance, Q_1 the square of the peak-to-peak (R127, R163). -/
def periodResult (c : Context) (v : PeriodValues) : SolveResult :=
  { epoch := c.epoch, void := none, y := c.y, grade := .referenceBound, n := 1,
    q := [v.variance, v.peak ^ 2, 0, 0, 0, 0, 0, 0], figure := 0,
    bands := [v.rms, v.peak, 0, 0, 0, 0, 0, 0], j := 0, belowFloor := 0, period := some v }

/-- The result of a measured solve (R134 to R139). -/
def measuredResult (own : Nat) (mask : BandMask) (c : Context) (suspects : List Nat) : SolveResult :=
  let peers := solvingPeers own c suspects
  let qs := solveValues c peers
  { epoch := c.epoch, void := none, y := c.y, grade := gradeOf (peers.length + 1), n := peers.length + 1,
    q := qs, figure := figureSum mask qs, bands := qs.map root, j := root (figureSum mask qs),
    belowFloor := belowFloorMask c peers, period := none }

/-- The course a solve takes (R127). -/
inductive Course where
  | void | period (v : PeriodValues) | measured
deriving DecidableEq, Repr

/-- The course is chosen from the context handed over and the mode in use (R127). -/
def courseOf (inPeriod : Bool) (c : Context) : Course :=
  if c.void.isSome then .void
  else if inPeriod then .period (c.period.getD { variance := 0, rms := 0, peak := 0 })
  else .measured

/-- The running solve ends with this result (R127). -/
def resultOf (own : Nat) (mask : BandMask) (inPeriod : Bool) (r : RunningSolve) : SolveResult :=
  match courseOf inPeriod r.context with
  | .void => voidResult r.context
  | .period v => periodResult r.context v
  | .measured => measuredResult own mask r.context r.suspects

end Sys2Proof.Machine
end

