-- ==== Sys2Proof/Machine/Judging.lean ====
section
/-! DEFINITION. The verdict unit's judgements, its run accumulators, its run record and its history ring
(chapter 9, R163 to R165). -/

namespace Sys2Proof.Machine

/-! ## One value against one limit (R142) -/

/-- The three outcomes (R142). -/
inductive Standing where
  | within | marginal | exceeded
deriving DecidableEq, Repr

/-- A variance against a limit given as a deviation; a limit of 0 is no limit (R142). -/
def standing (value limit : Nat) : Standing :=
  if limit = 0 then .within
  else if limit ^ 2 < value then .exceeded
  else if 49 * limit ^ 2 < 64 * value then .marginal
  else .within

/-- The first cause of an outcome: the lowest band that has it, then the figure (R143, R144). -/
def firstCause (u : Setup) (qs : Values) (figure : Nat) (w : Standing) : Option (Reason × Nat) :=
  match (List.range 8).find? (fun k => standing (valueAt qs k) (valueAt u.limits k) = w) with
  | some k => some (.band, k)
  | none => if standing figure u.figureLimit = w then some (.figure, 0) else none

/-- How a grade lets exceeded values be read: as a failure, or as proving nothing (R143, R144). -/
inductive Reading where
  | separated | bound
deriving DecidableEq, Repr

/-- A verdict with its reason and reason band. -/
structure Finding where
  verdict : Verdict
  reason : Reason
  band : Nat
deriving DecidableEq, Repr

/-- Step 3 of R143, and R144. -/
def judgeValues (u : Setup) (reading : Reading) (qs : Values) (figure : Nat) : Finding :=
  match firstCause u qs figure .exceeded with
  | some (r, k) =>
    match reading with
    | .separated => { verdict := .fail, reason := r, band := k }
    | .bound => { verdict := .unresolved, reason := r, band := k }
  | none =>
    match firstCause u qs figure .marginal with
    | some (r, k) => { verdict := .marginal, reason := r, band := k }
    | none => { verdict := .pass, reason := .none, band := 0 }

/-- Step 2 of R143: a tolerance other than 0 is exceeded. -/
def offFrequency (u : Setup) (y : Option Int) : Bool :=
  match y with
  | some y => u.tolerance ≠ 0 && u.tolerance < y.natAbs
  | none => false

/-- The reading of a result: period results and SEPARATED ones as findings, the others as bounds (R143,
R163). -/
def readingOf (r : SolveResult) : Reading :=
  if r.period.isSome ∨ r.grade = .separated then .separated else .bound

/-- The verdict of a result, or none for NOT_MEASURING (R143). -/
def findingOf (u : Setup) (r : SolveResult) : Option Finding :=
  match r.void with
  | some .notMeasuring => none
  | some .wander => some { verdict := .fail, reason := .wander, band := 0 }
  | some .disturbed => some { verdict := .noResult, reason := .disturbed, band := 0 }
  | none =>
    if offFrequency u r.y then some { verdict := .fail, reason := .offFrequency, band := 0 }
    else some (judgeValues u (readingOf r) r.q r.figure)

/-! ## Run accumulators (R147, R164) -/

/-- A result is added to a set, unless the set's count stands at 65,535 (R147). -/
def AccSet.add (a : AccSet) (qs : Values) (n : Nat) (reference : Bool) : AccSet :=
  if 65535 ≤ a.count then a
  else
    { count := a.count + 1
      sums := (List.range 8).map fun k => a.sums.getD k 0 + valueAt qs k
      smallestN := some (match a.smallestN with | some m => min m n | none => n)
      referenceMark := a.referenceMark || reference }

/-- A period result is added to the period run statistics (R164). -/
def PeriodRun.add (p : PeriodRun) (v : PeriodValues) : PeriodRun :=
  if 65535 ≤ p.count then p
  else
    { count := p.count + 1
      varianceSum := p.varianceSum + v.variance
      largestPeak := some (match p.largestPeak with | some m => max m v.peak | none => v.peak) }

/-- Step 2 of R145 on the accumulators: a measured result goes to the set its grade names, a period
result to the period run statistics, a void result nowhere (R147, R164). -/
def VerdictUnit.accumulate (v : VerdictUnit) (r : SolveResult) : VerdictUnit :=
  match r.period, r.grade with
  | some p, _ => { v with period := v.period.add p }
  | none, .separated => { v with separated := v.separated.add r.q r.n false }
  | none, .pairBound => { v with bound := v.bound.add r.q r.n false }
  | none, .referenceBound => { v with bound := v.bound.add r.q r.n true }
  | none, .none => v

/-- Step 2 of R145 on the run record (R148). -/
def VerdictUnit.note (v : VerdictUnit) (r : SolveResult) (f : Finding) : VerdictUnit :=
  { v with
    firstFailure :=
      if v.firstFailure.isNone ∧ f.verdict = .fail ∧ (f.reason = .wander ∨ f.reason = .offFrequency) then
        some f.reason
      else v.firstFailure
    lastY := if r.y.isSome then r.y else v.lastY }

/-! ## The history ring (R151) -/

/-- Two entries share run number and epoch number. -/
def HistoryEntry.sameIdentity (a b : HistoryEntry) : Bool := a.run = b.run && a.epoch = b.epoch

/-- A new entry joins the ring as the newest, in the order of R151. The ring stands oldest first. -/
def ringJoin (ring : List HistoryEntry) (e : HistoryEntry) : List HistoryEntry :=
  let others := ring.filter fun h => !h.sameIdentity e
  (if Config.ringPlaces ≤ others.length then others.tail else others) ++ [e]

/-- The entry of a VERDICT (R151). -/
def entryOf (run epoch : Nat) (b : VerdictBody) : HistoryEntry :=
  { run := run, epoch := epoch, runClose := b.runClose, verdict := b.verdict, reason := b.reason,
    reasonBand := b.reasonBand, grade := b.grade, n := b.n, y := b.y, bands := b.bands,
    figure := b.figure }

/-- The entry of a VERDICT joins the ring. -/
def State.recordHistory (s : State) (epoch : Nat) (b : VerdictBody) : State :=
  s.withVerdicts { s.verdicts with
    history := ringJoin s.verdicts.history (entryOf s.epochs.runNumber epoch b) }

/-- FAIL_SEEN is set by a verdict of FAIL (R145, R150). -/
def State.noteFail (s : State) (v : Verdict) : State := if v = .fail then s.raise .failSeen else s

/-! ## An epoch result (R145) -/

/-- The VERDICT of an epoch result (R145). The BOUND count of a period result is the period count (R163);
that of a void result in a PERIOD run is the BOUND set's own. -/
def State.epochVerdict (s : State) (u : Setup) (r : SolveResult) (f : Finding) : VerdictBody :=
  { verdict := f.verdict, reason := f.reason, reasonBand := f.band, grade := r.grade, n := r.n,
    mode := u.mode, belowFloor := r.belowFloor, runClose := false, events := 0, slips := s.capture.slips,
    y := r.y.getD 0, bands := r.bands, figure := r.j,
    separatedCount := s.verdicts.separated.count,
    boundCount := if r.period.isSome then s.verdicts.period.count else s.verdicts.bound.count }

/-- Step 4 of R145: the newest verdict, and VERDICT_CHANGED when it differs from the last reported one
(R146). -/
def State.noteNewest (s : State) (v : Verdict) : State :=
  let s := s.withVerdicts { s.verdicts with newest := some v }
  if s.verdicts.lastReported = some v then s else s.raise .verdictChanged

/-- The verdict unit handles a result whose finding is `f`: the five steps of R145. -/
def State.handleFinding (s : State) (u : Setup) (r : SolveResult) (f : Finding) : State :=
  let s := s.withVerdicts ((s.verdicts.accumulate r).note r f)
  let b := s.epochVerdict u r f
  let s := s.recordHistory r.epoch b
  let s := (s.noteFail f.verdict).noteNewest f.verdict
  s.offer .verdict (s.record r.epoch (.verdict b))

/-- The verdict unit handles a result (R145). One of NOT_MEASURING changes nothing. -/
def State.handleResult (s : State) (r : SolveResult) : State :=
  match s.control.held with
  | none => s
  | some h =>
    match findingOf h.setup r with
    | none => s
    | some f => s.handleFinding h.setup r f

/-! ## The run close (R149, R150, R165) -/

/-- The values of a reported set (R150, R165). -/
structure Reported where
  reading : Reading
  grade : Grade
  n : Nat
  q : Values
  figure : Nat
  bands : Values
  j : Nat
deriving DecidableEq, Repr

/-- The run averages of a set (R147). -/
def AccSet.averages (a : AccSet) : Values := (List.range 8).map fun k => a.sums.getD k 0 / a.count

/-- A set as the reported one (R149, R150). -/
def AccSet.reported (a : AccSet) (reading : Reading) (grade : Grade) (mask : BandMask) : Reported :=
  { reading := reading, grade := grade, n := a.smallestN.getD 0, q := a.averages,
    figure := figureSum mask a.averages, bands := a.averages.map root,
    j := root (figureSum mask a.averages) }

/-- The average variance of a PERIOD run (R165). -/
def PeriodRun.average (p : PeriodRun) : Nat := p.varianceSum / p.count

/-- The period run statistics as the reported set (R165). -/
def PeriodRun.reported (p : PeriodRun) : Reported :=
  { reading := .separated, grade := .referenceBound, n := 1,
    q := [p.average, p.largestPeak.getD 0 ^ 2, 0, 0, 0, 0, 0, 0], figure := 0,
    bands := [root p.average, p.largestPeak.getD 0, 0, 0, 0, 0, 0, 0], j := 0 }

/-- The reported set of a run (R150, R165). -/
def VerdictUnit.reportedSet (v : VerdictUnit) (u : Setup) (inPeriod : Bool) : Option Reported :=
  if inPeriod then
    if u.minEpochs ≤ v.period.count then some v.period.reported else none
  else if u.minEpochs ≤ v.separated.count then
    some (v.separated.reported .separated .separated u.figureMask)
  else if u.minEpochs ≤ v.bound.count then
    some (v.bound.reported .bound (if v.bound.referenceMark then .referenceBound else .pairBound)
      u.figureMask)
  else none

/-- The run-close verdict (R149, R165). -/
def VerdictUnit.runClose (v : VerdictUnit) (u : Setup) (inPeriod : Bool) : Finding :=
  match v.firstFailure with
  | some r => { verdict := .fail, reason := r, band := 0 }
  | none =>
    match v.reportedSet u inPeriod with
    | some p => judgeValues u p.reading p.q p.figure
    | none =>
      if v.dutAtEnd = some .absent ∨ v.dutAtEnd = some .wrongFrequency then
        { verdict := .noResult, reason := .dutLost, band := 0 }
      else { verdict := .noResult, reason := .tooFewEpochs, band := 0 }

/-- The run-close VERDICT (R150, R165). -/
def State.runCloseVerdict (s : State) (u : Setup) : VerdictBody :=
  let f := s.verdicts.runClose u s.inPeriod
  let p := (s.verdicts.reportedSet u s.inPeriod).getD
    { reading := .bound, grade := .none, n := 0, q := [], figure := 0, bands := List.replicate 8 0, j := 0 }
  { verdict := f.verdict, reason := f.reason, reasonBand := f.band, grade := p.grade, n := p.n,
    mode := u.mode, belowFloor := 0, runClose := true, events := 0, slips := s.capture.slips,
    y := s.verdicts.lastY.getD 0, bands := p.bands, figure := p.j,
    separatedCount := s.verdicts.separated.count,
    boundCount := if s.inPeriod then s.verdicts.period.count else s.verdicts.bound.count }

/-- The verdict unit records the DUT state at the run's end and forms and handles the run-close verdict
(R148 to R150). -/
def State.closeRun (s : State) (dut : Option DutState) : State :=
  let s := s.withVerdicts { s.verdicts with dutAtEnd := dut }
  match s.control.held with
  | none => s
  | some h =>
    let b := s.runCloseVerdict h.setup
    let s := (s.recordHistory s.epochs.counter b).noteFail b.verdict
    s.offer .verdict (s.record s.epochs.counter (.verdict b))

/-! ## HISTORY (R153) -/

/-- The HISTORY of the station as it stands. -/
def State.historyRecord (s : State) : Record :=
  s.record s.epochs.counter (.history
    { counts := s.link.counts, entries := s.verdicts.history.reverse, roster := s.rosterReports })

end Sys2Proof.Machine
end

