-- ==== Sys2Proof/Machine/Closing.lean ====
section
/-! DEFINITION. The close of an epoch and the end of a run (R18 to R23, R29 to R35, R40, R161, R162). -/

namespace Sys2Proof.Machine

/-! ## The solve trigger (R34, R35) -/

/-- The early-solve condition: each peer whose pair entry is DONE has a summary in the store (R34). -/
def Context.mayEarly (c : Context) : Bool :=
  (donePairs c.pairs).all fun e => c.summaries.any fun m => m.source = e.peer

/-- The trigger hands the context of SUMMARY_WAIT to the solver and retires it (R35). -/
def State.triggerSolve (s : State) : State :=
  match s.epochs.summaryWait with
  | none => s
  | some c =>
    (s.withEpochs { s.epochs with summaryWait := none }).withSolver
      { s.solver with waiting := s.solver.waiting ++ [c] }

/-- The test for an early solve of the context in SUMMARY_WAIT (R34). -/
def State.testEarly (s : State) : State :=
  match s.epochs.summaryWait with
  | none => s
  | some c => if c.mayEarly then s.triggerSolve else s

/-! ## The end of a run (R23, R40, R80, R172) -/

/-- Capture stops (R23, R24). -/
def State.stopCapture (s : State) : State :=
  s.withCapture { Capture.reset with
    slips := s.capture.slips, active := s.capture.active, tNomRounded := s.capture.tNomRounded }

/-- The epoch controller's contexts and the solves are abandoned, and the pair engine is emptied (R40,
R108, R111, R126, R161). -/
def State.abandonEpochs (s : State) : State :=
  ((s.withEpochs { s.epochs with capture := none, exchange := none, summaryWait := none }).withSolver
    Solver.empty).withEngine { PairEngine.reset with mode := s.engine.mode }

/-- The run ends: capture stops, contexts and solves are abandoned, the PHASE and SUMMARY slots are
emptied, the run-close verdict is formed, READY is entered (R172). -/
def State.endRun (s : State) : State :=
  let dut := s.capture.dut
  let s := (s.stopCapture.abandonEpochs).abandonOpen false
  let s := (s.withQueue s.queue.endRun).closeRun dut
  (s.withControl { s.control with state := .ready }).presenceDue.drain

/-! ## The capture unit's part of a close (R19 to R21, R162) -/

/-- The sample interval τ0 in tu (R4). -/
def Setup.interval (u : Setup) : Nat := 2 ^ u.exponent * Config.refclkPeriod

/-- A value held between two bounds of one magnitude. -/
def clampTo (bound v : Int) : Int := max (-bound) (min bound v)

/-- Δ = x_2047 − x_0 (R19). -/
def driftOf (xs : List Int) : Int := xs.getD 2047 0 - xs.getD 0 0

/-- The frequency offset in ppb (R19). -/
def offsetOf (u : Setup) (xs : List Int) : Int :=
  clampTo Config.offsetBound (roundHalfAway (-(driftOf xs * 10 ^ 9)) (2047 * u.interval))

/-- The residuals before the limit (R20). -/
def detrended (xs : List Int) : List Int :=
  xs.mapIdx fun i x => x - xs.getD 0 0 - roundHalfAway (i * driftOf xs) 2047

/-- The residuals (R20). -/
def residualsOf (xs : List Int) : List Int := (detrended xs).map (clampTo Config.residualBound)

/-- The limit acted on some entry (R20). -/
def wanders (xs : List Int) : Bool := (detrended xs).any fun r => clampTo Config.residualBound r ≠ r

/-- The period values (R162). -/
def EpochStats.values (e : EpochStats) : PeriodValues :=
  let v := ((e.count * e.squares : Nat) - e.sum ^ 2).toNat / e.count ^ 2
  { variance := v, rms := root v,
    peak := match e.min, e.max with
      | some lo, some hi => (hi - lo).toNat
      | _, _ => 0 }

/-- The context of the epoch as the capture unit hands it over: y, the final void reason, the period
values (R19 to R21, R162). One voided NOT_MEASURING gets neither. -/
def Context.finish (c : Context) (u : Setup) (xs : List Int) (stats : Option EpochStats) : Context :=
  if c.void = some .notMeasuring then c
  else
    let c := if wanders xs then c.raise .wander else c
    { c with y := some (offsetOf u xs)
             period := if c.void.isNone then stats.map EpochStats.values else none }

/-- The context yields pair values: no void reason, HAT mode. -/
def State.exchanges (s : State) (c : Context) : Bool := c.void.isNone && !s.inPeriod

/-- The capture unit's part of a close: what it hands over of the context `c`, finished (R21). DESIGN CHOICE: the
raw store, which R21 calls free for the next epoch, holds no epoch from here to the next boundary, and the epoch
statistics, which R162 calls free after a close without a void reason and discards after any other, are none
(notes/assumptions/37.md). -/
def State.handOver (s : State) (c : Context) (xs : List Int) : State :=
  let store := if s.exchanges c then some { epoch := c.epoch, residuals := residualsOf xs } else none
  let s := s.withEngine { s.engine with ownStore := store, stats := none }
  let s := s.withCapture { s.capture with raw := none }
  if s.exchanges c then s.offer .phase (s.record c.epoch (.phase (residualsOf xs))) else s

/-! ## The epoch controller's part of a close (R29 to R32) -/

/-- Step 1: the summary deadline of epoch n − 2 (R30). -/
def State.summaryDeadline (s : State) (n : Nat) : State :=
  let s := s.triggerSolve
  if 2 ≤ n then s.onSlot .summary (Slot.deadline .summary (n - 2)) else s

/-- The pair table of the EXCHANGE context freezes; a PHASE cut off is broken (R31, R58, R100, R119). -/
def State.freezeExchange (s : State) (c : Context) : State :=
  let broken := receivingPeers c.pairs
  let s := s.withEpochs { s.epochs with exchange := some { c with pairs := freezePairs c.pairs } }
  let s := (broken.foldl State.countBroken s).abandonOpen true
  s.withEngine { s.engine with work := WorkBuffer.empty, inHand := none }

/-- The context leaves EXCHANGE for SUMMARY_WAIT, with a solve at once if it is void or the early-solve
condition holds (R31, R33, R34). -/
def State.enterSummaryWait (s : State) : State :=
  match s.epochs.exchange with
  | none => s
  | some c =>
    let s := s.withEpochs { s.epochs with exchange := none, summaryWait := some c }
    if c.void.isSome then s.triggerSolve else s.testEarly

/-- The station's SUMMARY for the EXCHANGE context is queued, and the roster learns of the deadline, when
the context yields pair values (R31, R101, R120). -/
def State.reportExchange (s : State) : State :=
  match s.epochs.exchange with
  | none => s
  | some c =>
    if s.exchanges c then
      (s.offer .summary (s.record c.epoch (.summary (donePairs c.pairs)))).rosterDeadline c.pairs
    else s

/-- Step 2: the exchange deadline of epoch n − 1 (R31). -/
def State.exchangeDeadline (s : State) (n : Nat) : State :=
  let s := match s.epochs.exchange with
    | none => s
    | some c => s.freezeExchange c
  let s := if 1 ≤ n then s.onSlot .phase (Slot.deadline .phase (n - 1)) else s
  s.reportExchange.enterSummaryWait

/-- Step 3: epoch n enters EXCHANGE, and the self-value computation begins for a context that yields pair
values; otherwise the close hold ends with the close (R32, R111, R121). -/
def State.enterExchange (s : State) (c : Context) : State :=
  let s := s.withEpochs { s.epochs with
    capture := none, exchange := some { c with pairs := freshPairs s.control.number, summaries := [] } }
  s.withEngine { s.engine with
    selfFor := if s.exchanges c then some c.epoch else none, closeHold := s.exchanges c }

/-- After the close's handling the epoch counter advances, or the run ends with its last epoch (R26,
R40). -/
def State.afterClose (s : State) (n : Nat) : State :=
  if Config.lastEpoch ≤ n then s.endRun
  else (s.withEpochs { s.epochs with counter := s.epochs.counter + 1 }).drain

/-- The close of the epoch in CAPTURE (R18, R29). A frame and a self-value computation in hand finish
first (R111, R115). -/
def State.closeEpoch (s : State) (u : Setup) : State :=
  match s.epochs.capture with
  | none => s
  | some c =>
    let s := s.finishFrame.finishSelf
    let xs := match s.capture.raw with
      | some r => r.entries
      | none => []
    let c := c.finish u xs s.engine.stats
    let s := s.handOver c xs
    let s := (s.summaryDeadline c.epoch).exchangeDeadline c.epoch
    (s.enterExchange c).afterClose c.epoch

end Sys2Proof.Machine
end

