-- ==== Sys2Proof/Machine/Sampling.lean ====
section
/-! DEFINITION. The processing of completed samples (R6 to R17, R28, R160, R161). -/

namespace Sys2Proof.Machine

/-! ## Epoch boundaries (R28) -/

/-- A context created at its epoch boundary (R28). -/
def Context.fresh (epoch : Nat) : Context :=
  { epoch := epoch, void := none, y := none, selfValues := none, period := none, pairs := [],
    summaries := [] }

/-- The epoch statistics at a boundary (R161). -/
def EpochStats.start : EpochStats := { count := 0, sum := 0, squares := 0, min := none, max := none }

/-- The sample of this index is an epoch boundary, and the CAPTURE place is empty: the context is created
and the stores of the epoch begin (R8, R28, R161). -/
def State.beginBoundary (s : State) (index : Nat) : State :=
  if index % Config.epochLength = 0 ∧ s.epochs.capture.isNone then
    let s := s.withEpochs { s.epochs with capture := some (Context.fresh s.epochs.counter) }
    let s := s.withCapture { s.capture with raw := some { epoch := s.epochs.counter, entries := [] } }
    s.withEngine { s.engine with stats := if s.inPeriod then some EpochStats.start else none }
  else s

/-! ## Classification and the DUT state (R11 to R13) -/

/-- The classes of a sample (R11). -/
inductive SampleClass where
  | lost | unknown | wrong | good
deriving DecidableEq, Repr

/-- The class of a sample from its reading, the previous one and D; the first matching class applies. The
comparison is exact, in tu × 65,536 (R11). -/
def classifySample (u : Setup) (last reading : Option Nat) (edges : Nat) : SampleClass :=
  match reading with
  | none => .lost
  | some f =>
    if edges = 0 then .lost
    else
      match last with
      | none => .unknown
      | some g =>
        let span : Int := u.interval + f - g
        if 65536 * (u.interval / 64) < ((edges * u.tNom : Nat) - 65536 * span).natAbs then .wrong else .good

/-- The DUT enters SETTLING: the settle count is loaded and the sample becomes the reference (R7, R11,
R12). -/
def Capture.acquire (c : Capture) (u : Setup) (index f : Nat) : Capture :=
  { c with dut := some .settling, settle := some u.settleEpochs,
           reference := some { index := index, delay := f, edges := 0 } }

/-- The DUT state of a run changes (R15). -/
def State.setDut (s : State) (d : DutState) : State :=
  if s.capture.dut = some d then s else (s.withCapture { s.capture with dut := some d }).dutChanged

/-- The DUT is lost or off frequency: the reference is discarded (R12). -/
def State.loseDut (s : State) (d : DutState) : State :=
  (s.withCapture { s.capture with reference := none }).setDut d

/-- The class of a sample moves the DUT state (R12). -/
def State.applyClass (s : State) (u : Setup) (index : Nat) (reading : Option Nat) : SampleClass → State
  | .lost => s.loseDut .absent
  | .unknown => s
  | .wrong => s.loseDut .wrongFrequency
  | .good =>
    match s.capture.dut, reading with
    | some .absent, some f | some .wrongFrequency, some f =>
      (s.withCapture (s.capture.acquire u index f)).dutChanged
    | _, _ => s

/-- The start rule: at sample 0 the DUT state is set from F_0 (R11). The passage from the detector's names
sets no event (R15). -/
def State.startDut (s : State) (u : Setup) (reading : Option Nat) : State :=
  match reading with
  | some f => s.withCapture (s.capture.acquire u 0 f)
  | none => s.withCapture { s.capture with dut := some .absent }

/-- The settle count at an epoch boundary (R13). -/
def State.settleAtBoundary (s : State) (index : Nat) : State :=
  if index % Config.epochLength = 0 ∧ s.capture.dut = some .settling then
    match s.capture.settle with
    | some (n + 1) => s.withCapture { s.capture with settle := some n }
    | _ => s.setDut .measuring
  else s

/-! ## Time error (R7, R8) -/

/-- x_s, or 0 where no time error is formed (R7, R8). -/
def Capture.timeError (c : Capture) (u : Setup) (index : Nat) (reading : Option Nat) : Int :=
  match c.reference, reading with
  | some r, some f =>
    ((index : Int) - r.index) * u.interval + f - r.delay - roundHalfUp (r.edges * u.tNom) 65536
  | _, _ => 0

/-- The raw store entry of the sample is written (R8). -/
def State.storeEntry (s : State) (x : Int) : State :=
  s.withCapture { s.capture with
    raw := s.capture.raw.map fun r => { r with entries := r.entries ++ [x] } }

/-! ## Period statistics (R160, R161) -/

/-- A contributing sample updates the epoch statistics (R161). -/
def EpochStats.add (t : EpochStats) (e : Int) : EpochStats :=
  { count := t.count + 1, sum := t.sum + e, squares := t.squares + e.natAbs ^ 2,
    min := some (match t.min with | some m => Min.min m e | none => e),
    max := some (match t.max with | some m => Max.max m e | none => e) }

/-- The period deviation of a sample of a PERIOD run contributes, or a missing second reading disturbs
the epoch (R160). -/
def State.periodStep (s : State) (adjusted : Bool) (t : Timing) : State :=
  if s.inPeriod ∧ s.capture.dut = some .measuring then
    match t.first, t.second with
    | some f, some f' =>
      if adjusted then s
      else
        let e : Int := (f' : Int) - f - (s.capture.tNomRounded.getD 0 : Nat)
        s.withEngine { s.engine with stats := s.engine.stats.map (·.add e) }
    | _, _ => s.voidCapture .disturbed
  else s

/-! ## Slips (R16, R17) -/

/-- The second difference of the newest three entries. -/
def secondDifference (xs : List Int) : Int :=
  xs.getD (xs.length - 1) 0 - 2 * xs.getD (xs.length - 2) 0 + xs.getD (xs.length - 3) 0

/-- The slip check applies at the sample: `before` is the DUT state before its classification (R16). -/
def Capture.slipChecked (c : Capture) (before : Option DutState) (index : Nat) (adjusted : Bool) : Bool :=
  before = some .measuring && c.dut = some .measuring && 2 ≤ index % Config.epochLength && !adjusted
    && c.afterAdjusted = 0 && !c.slipBefore

/-- The newest second difference exceeds T_nom / 2 (R16). -/
def Capture.slips? (c : Capture) (u : Setup) : Bool :=
  match c.raw with
  | some r => u.tNom < 2 * 65536 * (secondDifference r.entries).natAbs
  | none => false

/-- A slip is counted and voids the epoch (R16, R17). -/
def State.slip (s : State) : State :=
  let wraps := decide (65535 ≤ s.capture.slips)
  let s := s.withCapture { s.capture with slips := if wraps then 0 else s.capture.slips + 1 }
  (if wraps then s.raise .slipWrapped else s).voidCapture .disturbed

/-- The slip check (R16). -/
def State.slipStep (s : State) (u : Setup) (before : Option DutState) (index : Nat) (adjusted : Bool) :
    State :=
  let found := s.capture.slipChecked before index adjusted && s.capture.slips? u
  let s := s.withCapture { s.capture with
    slipBefore := found, afterAdjusted := if adjusted then 2 else s.capture.afterAdjusted - 1 }
  if found then s.slip else s

/-! ## A sample (R10) -/

/-- Steps 1 and 2 of R10: K counts on, and the class moves the DUT state, but not at an adjusted sample
(R6); at sample 0 the start rule applies. An adjusted sample has voided the context that stood in CAPTURE when it
was taken (`takeSamples`). DEDUCED: it voids the context of its own epoch here too, for one that comes into CAPTURE
only behind the samples processed before it (R6, item 5; notes/assumptions/9.md). -/
def State.classStep (s : State) (u : Setup) (index : Nat) (adjusted : Bool) (edges : Nat) (t : Timing) :
    State :=
  let s := s.withCapture { s.capture with
    reference := s.capture.reference.map fun r => { r with edges := r.edges + edges } }
  if index = 0 then s.startDut u t.first
  else if adjusted then s.voidCapture .disturbed
  else s.applyClass u index t.first (classifySample u s.capture.lastReading t.first edges)

/-- Step 6 of R10: a DUT that is not MEASURING voids the epoch (R14). -/
def State.voidStep (s : State) : State :=
  if s.capture.dut = some .measuring then s else s.voidCapture .notMeasuring

/-- Steps 3 to 6 of R10. -/
def State.measureStep (s : State) (u : Setup) (before : Option DutState) (index : Nat) (adjusted : Bool)
    (t : Timing) : State :=
  let s := s.settleAtBoundary index
  let s := (s.storeEntry (s.capture.timeError u index t.first)).periodStep adjusted t
  let s := (s.slipStep u before index adjusted).voidStep
  s.withCapture { s.capture with lastReading := t.first }

/-- The processing of one completed sample (R10). `edges` is D. -/
def State.processSample (s : State) (u : Setup) (index : Nat) (adjusted : Bool) (edges : Nat)
    (t : Timing) : State :=
  let s := s.beginBoundary index
  let before := s.capture.dut
  let s := (s.classStep u index adjusted edges t).measureStep u before index adjusted t
  if index % Config.epochLength = 2047 then s.closeEpoch u else s

/-- Samples that share one reading are processed in index order; the edges counted since the instant
before them belong to the first (R6). The run may end at the last epoch's close. -/
def processFrom (u : Setup) (adjusted : Bool) (t : Timing) :
    (count : Nat) → (index edges : Nat) → State → State
  | 0, _, _, s => s
  | count + 1, index, edges, s =>
    if s.inRun then
      processFrom u adjusted t count (index + 1) 0 (s.processSample u index adjusted edges t)
    else s

/-- The measurement whose timer has run longest completes with these readings (R3, R160). -/
def State.completeSample (s : State) (u : Setup) (t : Timing) : State :=
  match s.capture.awaiting with
  | [] => s
  | m :: rest =>
    processFrom u m.adjusted t m.count m.firstIndex m.edges
      (s.withCapture { s.capture with awaiting := rest })

/-! ## Taking samples (R4 to R6) -/

/-- Samples are taken: the timer starts for them, and the next sample index passes them; an epoch boundary
creates its context (R4, R28). Adjusted samples void the context in CAPTURE with DISTURBED (R6, item 4). -/
def State.takeSamples (s : State) (clock : RunClock) (count : Nat) (adjusted : Bool) (edges : Nat) :
    State :=
  let m : Measurement :=
    { firstIndex := clock.nextIndex, count := count, adjusted := adjusted, edges := edges }
  let s := (s.withCapture { s.capture with
    clock := some { clock with nextIndex := clock.nextIndex + count },
    awaiting := s.capture.awaiting ++ [m],
    nextAdjusted := false }).beginBoundary clock.nextIndex
  if adjusted then s.voidCapture .disturbed else s

/-- The nearest multiple of 65,536 (R5). -/
def alignedCount (c : Nat) : Nat :=
  let d := c % Config.syncPeriod
  if d < 32768 then c - d else c - d + Config.syncPeriod

/-- The alignment check of a run, when the pulse finds the run count at `c` (R5, R6). When the check
passes, the sample instant of the same REFCLK edge is taken by its own event. -/
def State.checkAlignment (s : State) (u : Setup) (clock : RunClock) (c edges : Nat) : State :=
  let c' := alignedCount c
  if c % Config.syncPeriod = 0 then s.withCapture { s.capture with clock := some { clock with count := c } }
  else
    let s := s.voidCapture .disturbed
    if c < c' then
      let owed := c' / 2 ^ u.exponent + 1 - clock.nextIndex
      if owed = 0 then s.withCapture { s.capture with clock := some { clock with count := c' } }
      else s.takeSamples { clock with count := c' } owed true edges
    else
      s.withCapture { s.capture with clock := some { clock with count := c' }, nextAdjusted := true }

/-- The start instant (R171, step 5): RUNNING, run count and sample index 0, epoch counter 0, the mode
taken up, and sample 0 with the reading made there (R11). -/
def State.startRun (s : State) (u : Setup) (t : Timing) : State :=
  let s := s.withControl { s.control with state := .running, barrier := Barrier.none }
  let s := s.withEpochs { s.epochs with counter := 0 }
  let s := s.withEngine { s.engine with mode := some u.mode }
  let s := s.withCapture { Capture.reset with
    clock := some { count := 0, nextIndex := 1 }, slips := s.capture.slips, active := s.capture.active,
    tNomRounded := some (roundHalfUp u.tNom 65536) }
  (s.processSample u 0 false 0 t).presenceDue

end Sys2Proof.Machine
end

