-- ==== Sys2Proof/Machine/CaptureEvents.lean ====
section
/-! DEFINITION. The commands of the capture unit: SYNC pulses, detector windows, sample instants and their
timings (chapter 1, R160, R171). -/

namespace Sys2Proof.Machine

/-- The setup held acts; without one the event cannot arise (notes/assumptions/1.md). -/
def State.underSetup (s : State) (act : Setup → State) : State :=
  match s.control.held with
  | none => s
  | some h => act h.setup

/-- A window of the activity detector ends: the report, and DUT_CHANGED when it changes outside RUNNING
(R9, R15, R175). -/
def State.windowEnd (s : State) (edges : Nat) : State :=
  let report := decide (0 < edges)
  if s.capture.active = report then s
  else
    let s := s.withCapture { s.capture with active := report }
    if s.inRun then s else s.dutChanged

/-- A SYNC pulse at the start barrier: an armed station starts its run, any other ends its barrier claim
(R171). -/
def State.barrierPulse (s : State) (t : Timing) : State :=
  if s.control.barrier.armed then s.underSetup fun u => s.startRun u t
  else s.withControl { s.control with barrier := { s.control.barrier with claim := false } }

/-- A SYNC pulse in a run: the alignment check (R5, R6). -/
def State.runPulse (s : State) (r : SyncReading) : State :=
  match s.capture.clock with
  | none => s
  | some clock => s.underSetup fun u => s.checkAlignment u clock (clock.count + r.elapsed) r.edges

/-- The three uses of a SYNC pulse: the detector's window ends, and the pulse serves the alignment check
in RUNNING or the start barrier in BARRIER (R2). -/
def State.onSync (s : State) (r : SyncReading) : State :=
  let s := s.windowEnd r.windowEdges
  match s.control.state with
  | .running => s.runPulse r
  | .barrier => s.barrierPulse r.timing
  | .awaitSetup | .ready | .strapFault | .conflict => s

/-- SYNC_PULSE (R2, R5, R6, R9, R171). -/
def execSyncPulse (r : SyncReading) (s : State) : Host.Outcome State Fault Refusal :=
  s.checkedEvent r.timing.ok fun s => s.onSync r

/-- ACTIVITY_WINDOW_LIMIT (R9). -/
def execActivityWindowLimit (edges : Nat) (s : State) : Host.Outcome State Fault Refusal :=
  s.event fun s => s.windowEnd edges

/-- The sample whose turn it is, in RUNNING: the run count has reached its index × 2^p (R4). -/
def State.onSampleInstant (s : State) (edges : Nat) : State :=
  match s.capture.clock with
  | none => s
  | some clock =>
    if s.inRun then
      s.underSetup fun u =>
        s.takeSamples { clock with count := clock.nextIndex * 2 ^ u.exponent } 1 s.capture.nextAdjusted edges
    else s

/-- SAMPLE_INSTANT (R4, R28). -/
def execSampleInstant (edges : Nat) (s : State) : Host.Outcome State Fault Refusal :=
  s.event fun s => s.onSampleInstant edges

/-- The timer's readings complete the sample in RUNNING. -/
def State.completeInRun (s : State) (t : Timing) : State :=
  if s.inRun then s.underSetup fun u => s.completeSample u t else s

/-- SAMPLE_EDGE_TIMED: the first edge ends the timing, or in a PERIOD run the second (R3, R160). A first
edge alone completes nothing in a PERIOD run. -/
def execSampleEdgeTimed (first : Nat) (second : Option Nat) (s : State) :
    Host.Outcome State Fault Refusal :=
  s.checkedEvent (Timing.ok ⟨some first, second⟩) fun s =>
    if edgeCompletes s.inPeriod ⟨some first, second⟩ then s.completeInRun ⟨some first, second⟩ else s

/-- SAMPLE_TIMER_LIMIT: the awaited edge has not come (R3, R160). A first edge that came has ended the
timing of a HAT sample, so only a PERIOD sample still waits after it. -/
def execSampleTimerLimit (first : Option Nat) (s : State) : Host.Outcome State Fault Refusal :=
  s.checkedEvent (Timing.ok ⟨first, none⟩) fun s =>
    if limitCompletes s.inPeriod first then s.completeInRun ⟨first, none⟩ else s

end Sys2Proof.Machine
end

