-- ==== Sys2Proof/Machine/LinkEvents.lean ====
section
/-! DEFINITION. The commands of the link controller: arbitration, sending, receiving, and CLEAR (chapters 3
and 4). -/

namespace Sys2Proof.Machine

/-- The link controller in another mode, its quiet count from 0. -/
def State.inMode (s : State) (m : LinkMode) : State := s.withLink { s.link with mode := m, quiet := 0 }

/-- The quiet count restarts (R44). -/
def State.restartQuiet (s : State) : State := s.withLink { s.link with quiet := 0 }

/-- The station is in IDLE_WAIT, or in LISTENING with no frame open. -/
def LinkMode.mayCount : LinkMode → Bool
  | .idleWait => true
  | .listening .fieldPending => true
  | .listening .between => true
  | _ => false

/-- Neither the station's own WAIT nor CLEAR keeps the quiet count at 0 (R44). -/
def State.lineFree (s : State) : Bool := !s.drivesWait && !s.link.clearSeen

/-! ## Fields (R46, R47, R65 to R68) -/

/-- The quiet count reaches the idle gap: IDLE_WAIT, and a field if a slot is UNSENT (R46, R65). -/
def State.onIdleGap (s : State) : State :=
  if s.link.mode.mayCount ∧ s.lineFree then
    let s := s.withLink { s.link with mode := .idleWait, quiet := Config.idleGap }
    if s.mayContend then s.beginField else s
  else s

/-- IDLE_GAP_REACHED (R65). -/
def execIdleGapReached (s : State) : Host.Outcome State Fault Refusal :=
  s.event State.onIdleGap

/-- A field of other nodes begins: the station joins it with a record of its own, or listens (R46, R47,
R65). -/
def State.onFieldBegin (s : State) : State :=
  if s.link.mode.mayCount ∧ s.lineFree then
    if s.mayContend then s.beginField else s.inMode (.listening .fieldPending)
  else s

/-- FIELD_BEGIN_SEEN (R47). -/
def execFieldBeginSeen (s : State) : Host.Outcome State Fault Refusal :=
  s.event State.onFieldBegin

/-- A contender loses (R68). -/
def State.onArbitrationLost (s : State) : State :=
  match s.link.mode with
  | .contending _ => s.inMode (.listening .fieldPending)
  | .stopped | .idleWait | .sending _ _ _ | .listening _ => s

/-- ARBITRATION_LOST (R68). -/
def execArbitrationLost (s : State) : Host.Outcome State Fault Refusal :=
  s.event State.onArbitrationLost

/-- A contender wins: the UNSENT slot of highest priority goes on the link, or none is left (R68). DESIGN CHOICE: a
WAIT claim that began while the field ran does not hold back the first frame, which R53 and R68 begin in the bit
directly after the field (R51; notes/assumptions/38.md). -/
def State.onArbitrationWon (s : State) : State :=
  match s.link.mode with
  | .contending _ =>
    match s.queue.best with
    | some k => s.beginRecord k
    | none => s.inMode .idleWait
  | .stopped | .idleWait | .sending _ _ _ | .listening _ => s

/-- ARBITRATION_WON (R68). -/
def execArbitrationWon (s : State) : Host.Outcome State Fault Refusal :=
  s.event State.onArbitrationWon

/-! ## Sending (R53 to R55, R70) -/

/-- The last CRC bit of the sender's frame ends: OPEN is released by this station, and where no other node
holds it the frame is delivered at once (R53, R55). -/
def State.onFrameEnd (s : State) (openHeld : Bool) : State :=
  match s.link.mode with
  | .sending k i .inFrame =>
    if openHeld then s.inMode (.sending k i .awaitingTake) else s.delivered k i
  | _ => s

/-- END_OF_A_FRAME (R53, R55). -/
def execEndOfAFrame (openHeld : Bool) (s : State) : Host.Outcome State Fault Refusal :=
  s.event fun s => s.onFrameEnd openHeld

/-- The sender sees OPEN released after its frame (R53). -/
def State.onOpenReleased (s : State) : State :=
  match s.link.mode with
  | .sending k i .awaitingTake => s.delivered k i
  | _ => s

/-- OPEN_RELEASED (R53, R60). -/
def execOpenReleased (s : State) : Host.Outcome State Fault Refusal :=
  s.event State.onOpenReleased

/-- The sender in the middle of a record begins its next frame (R53). -/
def State.onFrameGap (s : State) : State :=
  match s.link.mode with
  | .sending k i .awaitingGap => if s.lineFree then s.inMode (.sending k (i + 1) .inFrame) else s
  | _ => s

/-- FRAME_GAP_REACHED (R53). -/
def execFrameGapReached (s : State) : Host.Outcome State Fault Refusal :=
  s.event State.onFrameGap

/-- The stall limit is reached with OPEN asserted (R54). A CLEAR already seen voids the cause (R61). -/
def State.onStall (s : State) : State :=
  match s.link.mode with
  | .sending k i .awaitingTake => if s.link.clearSeen then s else s.issueClear k i
  | _ => s

/-- STALL_LIMIT (R54). -/
def execStallLimit (s : State) : Host.Outcome State Fault Refusal :=
  s.event State.onStall

/-- A sender finds LINK not as it drove it (R70). -/
def State.onMismatch (s : State) : State :=
  match s.link.mode with
  | .sending k i .inFrame => if s.link.clearSeen then s else s.issueClear k i
  | _ => s

/-- READBACK_MISMATCH (R70). -/
def execReadbackMismatch (s : State) : Host.Outcome State Fault Refusal :=
  s.event State.onMismatch

/-! ## Receiving (R47 to R52) -/

/-- A dominant bit that is no field's beginning: a frame's start bit to a listener, or a restart of the
quiet count (R47). A WAIT of another node restarts the count, so no slot that becomes UNSENT starts a field
before the next idle gap (R44, R51, R65). -/
def State.onStartBit (s : State) (place : StartBit) : State :=
  match s.link.mode, place with
  | .stopped, _ => s
  | _, .waitAsserted => s.restartQuiet
  | .listening .fieldPending, .afterField => s.inMode (.listening .inFrame)
  | .listening .fieldPending, .atQuiet q | .listening .between, .atQuiet q =>
    match quietZone q with
    | .field => s
    | .frame => s.inMode (.listening .inFrame)
    | .restart => s.restartQuiet
  | .idleWait, .atQuiet q =>
    match quietZone q with
    | .field => s
    | .frame | .restart => s.restartQuiet
  | .idleWait, .afterField => s.restartQuiet
  | .listening .between, .afterField | .listening .inFrame, _ | .contending _, _ | .sending _ _ _, _ => s

/-- FRAME_START_BIT (R47). -/
def execFrameStartBit (place : StartBit) (s : State) : Host.Outcome State Fault Refusal :=
  s.event fun s => s.onStartBit place

/-- A listener takes a frame read to its end, and record assembly handles what may leave the FIFO (R46,
R48 to R50, R56). -/
def State.onFrame (s : State) (f : Frame) : State :=
  match s.link.mode with
  | .listening .inFrame =>
    (s.withLink { s.link with
      fifo := takeInto s.link.fifo f,
      mode := if frameEndsRecord f then .idleWait else .listening .between,
      quiet := 0 }).drain
  | _ => s

/-- FRAME_RECEIVED (R48, R49). -/
def execFrameReceived (f : Frame) (s : State) : Host.Outcome State Fault Refusal :=
  s.checkedEvent f.ok fun s => s.onFrame f

/-- A stretch of the station's own WAIT reaches 2 ms (R52). -/
def State.onHoldLimit (s : State) : State :=
  if s.drivesWait then
    s.emptyFifo.withControl { s.control with barrier := { s.control.barrier with claim := false } }
  else s

/-- WAIT_HOLD_LIMIT (R52). -/
def execWaitHoldLimit (s : State) : Host.Outcome State Fault Refusal :=
  s.event State.onHoldLimit

/-! ## CLEAR (R51, R61, R62) -/

/-- The record a sender has on the link is aborted, and its snapshot is discarded (R62, R74 to R77,
R155). -/
def State.abortSending (s : State) : State :=
  match s.link.mode with
  | .sending k _ _ =>
    let s := s.onSlot k (Slot.abort k)
    if k.carriesSnapshot then s.withVerdicts s.verdicts.dropSnapshot else s
  | _ => s

/-- CLEAR is first seen asserted (R62). A completed record already handed on stays. -/
def State.onClear (s : State) : State :=
  if s.link.clearSeen ∨ s.linkStopped then s
  else
    let s := s.abortSending.emptyFifo
    s.withLink { s.link with mode := .idleWait, quiet := 0, lastWinner := Config.lineTap, clearSeen := true }

/-- CLEAR_SEEN (R62). -/
def execClearSeen (s : State) : Host.Outcome State Fault Refusal :=
  s.event State.onClear

/-- CLEAR_PULSE_END: the station's own pulse has run 256 bit times (R61). -/
def execClearPulseEnd (s : State) : Host.Outcome State Fault Refusal :=
  s.event fun s => s.withLink { s.link with clearPulse := false }

/-- CLEAR is seen released: the quiet count starts, and a barrier claim still held asserts WAIT again, for
`drivesWait` then finds CLEAR gone (R51, R62). -/
def State.onClearReleased (s : State) : State :=
  if s.link.clearSeen ∧ !s.link.clearPulse then s.withLink { s.link with clearSeen := false, quiet := 0 }
  else s

/-- CLEAR_RELEASED (R51, R62). -/
def execClearReleased (s : State) : Host.Outcome State Fault Refusal :=
  s.event State.onClearReleased

end Sys2Proof.Machine
end

