-- ==== Sys2Proof/Machine/RecordEvents.lean ====
section
/-! DEFINITION. The commands of completed records from peers and of the number conflict (R38, R59, R71,
R96 to R100, R173, R174). Each acts on what record assembly has handed on; assembly then goes on. -/

namespace Sys2Proof.Machine

/-- The shape of a record's command: the record handed on is taken, its owners act, and record assembly goes
on with the FIFO (R59). Without such a record the event cannot arise (notes/assumptions/1.md). -/
def State.onRecord (s : State) (act : State → RxRecord → State) : State :=
  match s.link.handOn with
  | some (.record r) => (act (s.withLink { s.link with handOn := none }) r).drain
  | _ => s

/-- The body is of the kind the command names. -/
def RxRecord.isKind (r : RxRecord) (k : Kind) : Bool := r.header.kind = k.code

/-- The shape of a record's command for one kind of record. -/
def State.onKind (s : State) (k : Kind) (act : State → RxRecord → State) : State :=
  match s.link.handOn with
  | some (.record r) => if r.isKind k then s.onRecord act else s
  | _ => s

/-! ## Records of peers -/

/-- A PRESENCE is heard and its reported states are recorded (R96, R97). -/
def State.takePresence (s : State) (r : RxRecord) : State :=
  match r.body with
  | .presence b => (s.hear r.header).notePresence r.header.source b
  | _ => s

/-- PRESENCE_RECORD (R97). -/
def execPresenceRecord (s : State) : Host.Outcome State Fault Refusal :=
  s.event fun s => s.onKind .presence State.takePresence

/-- The classes of R38, and *refused* for a record that fails R36. -/
inductive SummaryClass where
  | refused | stored | duplicate | unpaired | late
deriving DecidableEq, Repr

/-- The context of an epoch in EXCHANGE or SUMMARY_WAIT (R38). -/
def Epochs.takingSummary (e : Epochs) (epoch : Nat) : Option Context :=
  match e.exchange.filter (·.epoch = epoch) with
  | some c => some c
  | none => e.summaryWait.filter (·.epoch = epoch)

/-- The class of a SUMMARY (R38). In a PERIOD run none is stored, since the stores stay empty there (R125, R159).
DESIGN CHOICE: a SUMMARY for a live context of such a run is unpaired, as R159 has a PHASE
(notes/assumptions/36.md). -/
def State.classifySummary (s : State) (h : Header) : SummaryClass :=
  if !s.judges h then .refused
  else
    match s.epochs.takingSummary h.epoch with
    | none => .late
    | some c =>
      if c.void.isSome || s.inPeriod then .unpaired
      else if c.summaries.any fun m => m.source = h.source then .duplicate
      else .stored

/-- A context takes a summary into its store if it is that epoch's (R125). -/
def Context.store (c : Context) (epoch : Nat) (m : Summary) : Context :=
  if c.epoch = epoch then { c with summaries := c.summaries ++ [m] } else c

/-- The summary is stored, and the early-solve condition is tested when its context is in SUMMARY_WAIT
(R34, R38). -/
def State.storeSummary (s : State) (epoch : Nat) (m : Summary) : State :=
  match s.epochs.exchange.filter (·.epoch = epoch) with
  | some c => s.withEpochs { s.epochs with exchange := some (c.store epoch m) }
  | none =>
    (s.withEpochs { s.epochs with summaryWait := s.epochs.summaryWait.map (·.store epoch m) }).testEarly

/-- The effect of a SUMMARY's class (R38). -/
def State.applySummary (s : State) (h : Header) (es : List SummaryEntry) : SummaryClass → State
  | .stored => s.storeSummary h.epoch { source := h.source, entries := es }
  | .duplicate => s.countDuplicate h.source
  | .late => s.countLate h.source
  | .unpaired => s
  | .refused => s

/-- A SUMMARY is heard, names its peers, and is classified (R38, R96, R99, R173). -/
def State.takeSummary (s : State) (r : RxRecord) : State :=
  match r.body with
  | .summary es =>
    let s := ((s.hear r.header).noteNamed r.header es).noteOtherRun r.header
    s.applySummary r.header es (s.classifySummary r.header)
  | _ => s

/-- SUMMARY_RECORD (R38). -/
def execSummaryRecord (s : State) : Host.Outcome State Fault Refusal :=
  s.event fun s => s.onKind .summary State.takeSummary

/-- A VERDICT is heard and tested by identity; an epoch VERDICT of another run is a missed run (R96, R98,
R173). -/
def State.takeVerdict (s : State) (r : RxRecord) : State :=
  match r.body with
  | .verdict b =>
    let s := (s.hear r.header).noteVerdict r.header
    if b.runClose then s else s.noteOtherRun r.header
  | _ => s

/-- VERDICT_RECORD (R98). -/
def execVerdictRecord (s : State) : Host.Outcome State Fault Refusal :=
  s.event fun s => s.onKind .verdict State.takeVerdict

/-- A HISTORY is heard and goes to no block (R59, R83, R96). -/
def State.takeHistory (s : State) (r : RxRecord) : State := s.hear r.header

/-- HISTORY_RECORD (R83). -/
def execHistoryRecord (s : State) : Host.Outcome State Fault Refusal :=
  s.event fun s => s.onKind .history State.takeHistory

/-! ## Number conflict -/

/-- The link controller stops on entry to CONFLICT: every line is released, the FIFO and what is open or
handed on are discarded (R64, R174). -/
def State.stopLink (s : State) : State :=
  s.withLink { s.link with
    mode := .stopped, quiet := 0, fifo := [], opened := none, handOn := none, clearSeen := false,
    clearPulse := false }

/-- The run a CONFLICT interrupts: capture stops, contexts and solves are abandoned without a verdict
(R174). DEDUCED: the accumulator memory keeps its use (the engine's mode), as R123 has it at a run's other
ends (notes/assumptions/23.md). -/
def State.dropRun (s : State) : State := if s.inRun then s.stopCapture.abandonEpochs else s

/-- Run control enters CONFLICT (R71, R80, R155, R174). -/
def State.enterConflict (s : State) : State :=
  let s := s.raise .numberConflict
  let s := s.dropRun.stopLink
  let s := (s.withQueue Queue.empty).withVerdicts s.verdicts.dropSnapshot
  s.withControl { s.control with state := .conflict, barrier := Barrier.none }

/-- The conflict found in record assembly is handled. -/
def State.onConflict (s : State) : State :=
  match s.link.handOn with
  | some .conflict => s.enterConflict
  | _ => s

/-- NUMBER_CONFLICT (R71, R174). -/
def execNumberConflict (s : State) : Host.Outcome State Fault Refusal :=
  s.event State.onConflict

end Sys2Proof.Machine
end

