-- ==== Sys2Proof/Machine/ControlEvents.lean ====
section
/-! DEFINITION. The commands of run control and RECALL (chapter 11, R152). -/

namespace Sys2Proof.Machine

/-- The station may take a SETUP: AWAIT_SETUP or READY (R169). -/
def State.mayTakeSetup (s : State) : Bool :=
  s.control.state = .awaitSetup || s.control.state = .ready

/-- A SETUP is accepted: setup and digest, attention mask, the roster's comparison, READY (R169, R156,
R96). -/
def State.acceptSetup (s : State) (f : SetupFields) : State :=
  let s := s.withControl { s.control with held := some f.store, state := .ready }
  (s.withVerdicts { s.verdicts with mask := f.effective.mask }).recheckDigests

/-- A SETUP reaches run control (R169). -/
def State.takeSetup (s : State) (r : RxRecord) : State :=
  match r.body with
  | .setup f =>
    if s.mayTakeSetup then (if f.accepted then s.acceptSetup f else s).presenceDue else s
  | _ => s

/-- SETUP (R169). -/
def execSetup (s : State) : Host.Outcome State Fault Refusal :=
  s.event fun s => s.onKind .setup State.takeSetup

/-- The verdict unit prepares for a run (R146 to R148, R164). -/
def VerdictUnit.started (v : VerdictUnit) : VerdictUnit :=
  { v with newest := none, lastReported := none, separated := AccSet.empty, bound := AccSet.empty,
           period := PeriodRun.empty, firstFailure := none, lastY := none, dutAtEnd := none }

/-- A START is taken: the six steps of R170. The claim on WAIT restarts the quiet count (R44). -/
def State.acceptStart (s : State) (run : Nat) : State :=
  let s := s.withEpochs { s.epochs with runNumber := run }
  let s := s.withCapture { s.capture with slips := 0 }
  let s := s.withVerdicts s.verdicts.started
  let s := s.withRoster (s.roster.map RosterEntry.started)
  let s := s.withLink { s.link with quiet := 0 }
  (s.withControl { s.control with
    state := .barrier, barrier := { claim := true, looking := false, armed := false } }).presenceDue

/-- A START reaches run control (R170). -/
def State.takeStart (s : State) (r : RxRecord) : State :=
  match r.body with
  | .start run digest =>
    match s.control.state with
    | .ready => if digest = s.ownDigest then s.acceptStart run else s.runMissed
    | .awaitSetup => s.runMissed
    | .barrier | .running | .strapFault | .conflict => s
  | _ => s

/-- START (R170). -/
def execStart (s : State) : Host.Outcome State Fault Refusal :=
  s.event fun s => s.onKind .start State.takeStart

/-- The release of WAIT is seen: the station is armed for the next SYNC pulse (R171). -/
def State.arm (s : State) : State :=
  s.withControl { s.control with barrier := { s.control.barrier with armed := true } }

/-- The look begins; if WAIT is then released and has been for a bit time, the release is seen at once
(R171). -/
def State.onLookBegin (s : State) (released : Bool) : State :=
  if s.control.state = .barrier ∧ !s.control.barrier.looking then
    let s := s.withControl { s.control with barrier := { s.control.barrier with looking := true } }
    if released ∧ s.lineFree then s.arm else s
  else s

/-- BARRIER_LOOK_BEGIN (R171). -/
def execBarrierLookBegin (released : Bool) (s : State) : Host.Outcome State Fault Refusal :=
  s.event fun s => s.onLookBegin released

/-- WAIT has stayed released for a whole bit time with CLEAR released (R51, R171). -/
def State.onReleaseSeen (s : State) : State :=
  if s.control.state = .barrier ∧ s.control.barrier.looking ∧ s.lineFree then s.arm else s

/-- BARRIER_RELEASE_SEEN (R171). -/
def execBarrierReleaseSeen (s : State) : Host.Outcome State Fault Refusal :=
  s.event State.onReleaseSeen

/-- A STOP reaches run control (R172). -/
def State.takeStop (s : State) (_ : RxRecord) : State :=
  match s.control.state with
  | .running => s.endRun
  | .barrier => (s.withControl { s.control with state := .ready, barrier := Barrier.none }).presenceDue
  | .awaitSetup | .ready | .strapFault | .conflict => s

/-- STOP (R172). -/
def execStop (s : State) : Host.Outcome State Fault Refusal :=
  s.event fun s => s.onKind .stop State.takeStop

/-- A RECALL reaches the verdict unit: it is answered when it targets this station and the HISTORY slot is
EMPTY (R152, R153). -/
def State.takeRecall (s : State) (r : RxRecord) : State :=
  if r.header.target = s.control.number ∧ s.queue.history.state = .empty then
    s.offer .history s.historyRecord
  else s

/-- RECALL (R152). -/
def execRecall (s : State) : Host.Outcome State Fault Refusal :=
  s.event fun s => s.onKind .recall State.takeRecall

end Sys2Proof.Machine
end

