-- ==== Sys2Proof/Machine/EngineEvents.lean ====
section
/-! DEFINITION. The commands of the pair engine and of the solver (R37, R111, R114 to R121, R127 to
R129). -/

namespace Sys2Proof.Machine

/-- SELF_VALUES_DONE (R111, R121). -/
def execSelfValuesDone (s : State) : Host.Outcome State Fault Refusal :=
  s.event State.finishSelf

/-! ## Solves -/

/-- The oldest waiting solve begins when no solve runs and the engine is not in the middle of a frame; a
measured solve reads who is SUSPECT (R35, R121, R128). -/
def State.beginSolve (s : State) : State :=
  match s.solver.running, s.engine.inHand, s.solver.waiting with
  | none, none, c :: rest =>
    let measured := s.exchanges c
    s.withSolver { running := some { context := c, suspects := if measured then s.suspects else [] },
                   waiting := rest }
  | _, _, _ => s

/-- SOLVE_BEGIN (R128). -/
def execSolveBegin (s : State) : Host.Outcome State Fault Refusal :=
  s.event State.beginSolve

/-- The charged and agreed sets of a measured solve go to the roster (R140). -/
def State.reportSets (s : State) (r : RunningSolve) : State :=
  if s.exchanges r.context then
    s.rosterSolved (chargedSet s.control.number r.context r.suspects)
      (agreedSet s.control.number r.context)
  else s

/-- The running solve's result under the setup held (R127). -/
def State.solveResult (s : State) (r : RunningSolve) : SolveResult :=
  let mask := match s.control.held with
    | some h => h.setup.figureMask
    | none => 0
  resultOf s.control.number mask s.inPeriod r

/-- A running solve ends: the verdict unit, the roster, and the solve that waits (R128, R139, R140). -/
def State.endSolve (s : State) : State :=
  match s.solver.running with
  | none => s
  | some r =>
    let s := (s.handleResult (s.solveResult r)).reportSets r
    (s.withSolver { s.solver with running := none }).beginSolve

/-- SOLVE_END (R128). -/
def execSolveEnd (s : State) : Host.Outcome State Fault Refusal :=
  s.event State.endSolve

/-! ## PHASE frames -/

/-- What the classes of R37 do beyond discarding: a current PHASE opens its entry, a duplicate, early or
late one raises its count. -/
def State.applyClassOf (s : State) (j : Nat) : PhaseClass → State
  | .current => s.openPair j
  | .duplicate => s.countDuplicate j
  | .early => s.countLate j
  | .late => s.countLate j
  | .unpaired => s
  | .refused => s

/-- The FIRST frame of the PHASE `o`, at the oldest end of the FIFO, is checked, heard, classified and held
(R37, R85, R96, R114, R173). -/
def State.classifyFirst (s : State) (o : OpenRecord) : State :=
  let h := o.header
  if s.phaseHeaderOk h then
    let s := (s.hear h).noteOtherRun h
    let c := s.classifyPhase h
    let s := s.applyClassOf h.source c
    if c = .current then s.holdOpen .current else (s.discardFirst o o.counted).drain
  else (s.discardFirst o o.counted).drain

/-- The FIRST frame that waits for its classification is handled. The engine finishes a frame it still has
in hand before: the LAST frame of an earlier PHASE, whose entry is DONE by the time a later record is
handed on (R117). -/
def State.onPhaseFirstFrame (s : State) : State :=
  match s.link.opened, s.link.fifo with
  | some o, _ :: _ => if o.holding = .unclassified then s.finishFrame.classifyFirst o else s
  | _, _ => s

/-- PHASE_FIRST_FRAME (R37). -/
def execPhaseFirstFrame (s : State) : Host.Outcome State Fault Refusal :=
  s.event State.onPhaseFirstFrame

/-- The residual bytes of a frame of a PHASE: those of the FIRST frame follow the record header (R115). -/
def GoodFrame.residualBytes (f : GoodFrame) : List Byte :=
  if f.kind = .first then f.payload.drop 9 else f.payload

/-- The engine takes frame `f` of the current PHASE `o`: the frame leaves the FIFO, and a LAST frame closes
the record in assembly and gives its source to the last-winner value (R50, R56, R59, R115). -/
def State.engineTakes (s : State) (o : OpenRecord) (e : FifoEntry) (f : GoodFrame) : State :=
  let last := decide (f.kind = .last)
  let s := s.withEngine { s.engine with
    inHand := some { peer := o.header.source, bytes := f.residualBytes, last := last } }
  let s := s.popFifo
  let s := if last then (s.withLink { s.link with opened := none }).noteWinner o.header.source
    else s.withLink { s.link with opened := some { o with taken := o.taken + 1 } }
  (s.afterEntry e).drain

/-- A MIDDLE or LAST frame that assembly does not accept breaks the current PHASE and is discarded
(R56, R57). -/
def State.refuseNext (s : State) (e : FifoEntry) : State :=
  (s.breakOpen.popFifo.afterEntry e).drain

/-- The current PHASE's frame at the oldest end of the FIFO is taken when no hold stands and the engine is
free; each frame after the FIRST is checked at the take (R115, R121). -/
def State.onTakeFrame (s : State) : State :=
  match s.link.opened, s.link.fifo with
  | some o, e :: _ =>
    if o.holding = .current ∧ !s.engineHeld ∧ s.engine.inHand.isNone then
      match e.frame with
      | none => s
      | some f =>
        if o.taken = 0 ∨ f.nextOk o then s.engineTakes o e f else s.refuseNext e
    else s
  | _, _ => s

/-- PAIR_ENGINE_TAKE_FRAME (R115). -/
def execPairEngineTakeFrame (s : State) : Host.Outcome State Fault Refusal :=
  s.event State.onTakeFrame

/-- PAIR_ENGINE_FRAME_DONE (R115, R117). -/
def execPairEngineFrameDone (s : State) : Host.Outcome State Fault Refusal :=
  s.event State.finishFrame

end Sys2Proof.Machine
end

