-- ==== Sys2Proof/Machine/Resets.lean ====
section
/-! DEFINITION. Power-on and RESET_N (R24, R42, R64, R80, R106, R124, R141, R158, R166 to R168). -/

namespace Sys2Proof.Machine

/-- Run control reads the straps: a number of 0 … 23 puts the station in READY or AWAIT_SETUP and makes a
PRESENCE; 24 … 31 puts it in STRAP_FAULT with its link controller stopped (R43, R167, R168, R175). -/
def State.readStraps (s : State) (straps : BitVec 5) (cause : ResetCause) : State :=
  let c := { s.control with number := straps.toNat, cause := cause }
  let s := { s with hold := .free }
  if straps.toNat ≤ Config.lastStation then
    (s.withControl { c with state := if c.held.isSome then .ready else .awaitSetup }).presenceDue
  else
    (s.withControl { c with state := .strapFault }).withLink { s.link with mode := .stopped }

/-- POWER_ON: the internal power-on reset ends (R168). Every block takes its power-on values; the straps
are read now, or at the release of a RESET_N that is still asserted. -/
def execPowerOn (straps : BitVec 5) (resetLow : Bool) (s : State) : Host.Outcome State Fault Refusal :=
  let fresh := { State.reset with pending := s.pending }
  .next (if resetLow then { fresh with hold := .resetNFromPowerOn }
    else (fresh.readStraps straps .power).settlePresence)

/-- The RESET_N values of every block: those of power-on but for the number, the reset cause, the setup
store with its digest, the attention mask, the history ring and the run number (R168). -/
def State.takeResetN (s : State) : State :=
  { State.reset with
    hold := .resetN
    control := { Control.reset with
      number := s.control.number, cause := s.control.cause, held := s.control.held,
      state := if s.control.held.isSome then .ready else .awaitSetup }
    epochs := { Epochs.reset with runNumber := s.epochs.runNumber }
    verdicts := { VerdictUnit.reset with mask := s.verdicts.mask, history := s.verdicts.history }
    pending := s.pending }

/-- RESET_N_ASSERTED: RESET_N reads low at two consecutive edges (R168). -/
def execResetNAsserted (s : State) : Host.Outcome State Fault Refusal :=
  .next (if s.hold = .free then s.takeResetN else s)

/-- RESET_N_RELEASED: RESET_N reads high at two consecutive edges (R168). The cause is POWER when RESET_N
was held through the end of power-on. -/
def execResetNReleased (straps : BitVec 5) (s : State) : Host.Outcome State Fault Refusal :=
  match s.hold with
  | .resetN => .next (s.readStraps straps .pin).settlePresence
  | .resetNFromPowerOn => .next (s.readStraps straps .power).settlePresence
  | .free | .powerOn => .next s

end Sys2Proof.Machine
end

