-- ==== Sys2Proof/Machine/Dispatch.lean ====
section
/-! DEFINITION. The meaning of each command, one arm per constructor. -/

namespace Sys2Proof.Machine

def exec (i : Instr) (s : State) : Host.Outcome State Fault Refusal :=
  match i with
  | .powerOn straps resetLow => Sys2Proof.Machine.execPowerOn straps resetLow s
  | .resetNAsserted => Sys2Proof.Machine.execResetNAsserted s
  | .resetNReleased straps => Sys2Proof.Machine.execResetNReleased straps s
  | .syncPulse r => Sys2Proof.Machine.execSyncPulse r s
  | .activityWindowLimit windowEdges => Sys2Proof.Machine.execActivityWindowLimit windowEdges s
  | .sampleInstant edges => Sys2Proof.Machine.execSampleInstant edges s
  | .sampleEdgeTimed first second => Sys2Proof.Machine.execSampleEdgeTimed first second s
  | .sampleTimerLimit first => Sys2Proof.Machine.execSampleTimerLimit first s
  | .selfValuesDone => Sys2Proof.Machine.execSelfValuesDone s
  | .solveBegin => Sys2Proof.Machine.execSolveBegin s
  | .solveEnd => Sys2Proof.Machine.execSolveEnd s
  | .idleGapReached => Sys2Proof.Machine.execIdleGapReached s
  | .fieldBeginSeen => Sys2Proof.Machine.execFieldBeginSeen s
  | .arbitrationLost => Sys2Proof.Machine.execArbitrationLost s
  | .arbitrationWon => Sys2Proof.Machine.execArbitrationWon s
  | .frameReceived f => Sys2Proof.Machine.execFrameReceived f s
  | .phaseFirstFrame => Sys2Proof.Machine.execPhaseFirstFrame s
  | .pairEngineTakeFrame => Sys2Proof.Machine.execPairEngineTakeFrame s
  | .pairEngineFrameDone => Sys2Proof.Machine.execPairEngineFrameDone s
  | .openReleased => Sys2Proof.Machine.execOpenReleased s
  | .frameGapReached => Sys2Proof.Machine.execFrameGapReached s
  | .stallLimit => Sys2Proof.Machine.execStallLimit s
  | .readbackMismatch => Sys2Proof.Machine.execReadbackMismatch s
  | .clearSeen => Sys2Proof.Machine.execClearSeen s
  | .clearPulseEnd => Sys2Proof.Machine.execClearPulseEnd s
  | .clearReleased => Sys2Proof.Machine.execClearReleased s
  | .waitHoldLimit => Sys2Proof.Machine.execWaitHoldLimit s
  | .presenceRecord => Sys2Proof.Machine.execPresenceRecord s
  | .summaryRecord => Sys2Proof.Machine.execSummaryRecord s
  | .verdictRecord => Sys2Proof.Machine.execVerdictRecord s
  | .historyRecord => Sys2Proof.Machine.execHistoryRecord s
  | .numberConflict => Sys2Proof.Machine.execNumberConflict s
  | .setup => Sys2Proof.Machine.execSetup s
  | .start => Sys2Proof.Machine.execStart s
  | .barrierLookBegin released => Sys2Proof.Machine.execBarrierLookBegin released s
  | .barrierReleaseSeen => Sys2Proof.Machine.execBarrierReleaseSeen s
  | .stop => Sys2Proof.Machine.execStop s
  | .recall => Sys2Proof.Machine.execRecall s
  | .endOfAFrame openHeld => Sys2Proof.Machine.execEndOfAFrame openHeld s
  | .frameStartBit place => Sys2Proof.Machine.execFrameStartBit place s

end Sys2Proof.Machine
end

