-- ==== Sys2Proof/Safety.lean ====
section
/-! DEFINITION. What a sound state of the station is: the bounds and exclusions the rules state of the whole
machine. -/

namespace Sys2Proof.Machine

/-- The receive FIFO holds up to four frames (R50). -/
def State.fifoBounded (s : State) : Prop := s.link.fifo.length ≤ 4

/-- The history ring holds up to eight entries, and no two share a run number and epoch number (R151). -/
def State.ringSound (s : State) : Prop :=
  s.verdicts.history.length ≤ 8
    ∧ s.verdicts.history.Pairwise fun a b => ¬(a.run = b.run ∧ a.epoch = b.epoch)

/-- The roster stands in ascending number, so no two entries share one, and holds neither the station's own
number nor one above 23; a station in reset has an empty roster (R95, R106). -/
def State.rosterSound (s : State) : Prop :=
  s.roster.Pairwise (fun a b => a.peer < b.peer)
    ∧ (∀ e ∈ s.roster, e.peer ≤ 23 ∧ e.peer ≠ s.control.number)
    ∧ (s.hold ≠ .free → s.roster = [])

/-- A station whose link controller is stopped holds no record to send, and so does one in reset (R73,
R80). -/
def State.stoppedQueueEmpty (s : State) : Prop :=
  s.link.mode = .stopped ∨ s.hold ≠ .free → s.queue = Queue.empty

/-- Outside RUNNING, and in reset, the context table is empty, no solve is in hand, and there is no run count, no running
timer, no raw store and no time-error reference (R4, R8, R24, R27, R42). -/
def State.idleOutsideRun (s : State) : Prop :=
  s.control.state ≠ .running ∨ s.hold ≠ .free →
    s.epochs.capture = none ∧ s.epochs.exchange = none ∧ s.epochs.summaryWait = none
      ∧ s.solver.running = none ∧ s.solver.waiting = []
      ∧ s.capture.clock = none ∧ s.capture.awaiting = [] ∧ s.capture.raw = none
      ∧ s.capture.reference = none ∧ s.capture.settle = none

/-- Outside BARRIER, and in reset, there is no barrier claim, no look and no armed start (R51, R171, R172). -/
def State.barrierOnly (s : State) : Prop :=
  s.control.state ≠ .barrier ∨ s.hold ≠ .free →
    s.control.barrier = { claim := false, looking := false, armed := false }

/-- The live contexts belong to consecutive epochs: the one in CAPTURE is that of the epoch counter, the one
in EXCHANGE that of the epoch before, the one in SUMMARY_WAIT that before it (R26, R27). -/
def State.tableOrdered (s : State) : Prop :=
  (∀ c, s.epochs.capture = some c → c.epoch = s.epochs.counter)
    ∧ (∀ c, s.epochs.exchange = some c → c.epoch + 1 = s.epochs.counter)
    ∧ (∀ c, s.epochs.summaryWait = some c → c.epoch + 2 = s.epochs.counter)

/-- The counters stay within the widths the rules give them (R17, R69, R78, R79, R147, R164, R167). -/
def State.countersBounded (s : State) : Prop :=
  s.control.number ≤ 31 ∧ s.capture.slips ≤ 65535 ∧ s.link.lastWinner ≤ 31 ∧ s.link.clearRun ≤ 8
    ∧ s.verdicts.separated.count ≤ 65535 ∧ s.verdicts.bound.count ≤ 65535
    ∧ s.verdicts.period.count ≤ 65535

/-- The eight link counts stop at 65,535 (R79). -/
def State.linkCountsBounded (s : State) : Prop :=
  s.link.counts.clearPresence ≤ 65535 ∧ s.link.counts.clearSummary ≤ 65535
    ∧ s.link.counts.clearPhase ≤ 65535 ∧ s.link.counts.clearVerdict ≤ 65535
    ∧ s.link.counts.clearHistory ≤ 65535 ∧ s.link.counts.phaseWithdrawn ≤ 65535
    ∧ s.link.counts.summaryWithdrawn ≤ 65535 ∧ s.link.counts.verdictSuperseded ≤ 65535

/-- The counts of every roster entry stop at the ends of their ranges (R95). -/
def State.rosterCountsBounded (s : State) : Prop :=
  ∀ e ∈ s.roster, e.missed ≤ 255 ∧ e.mismatch ≤ 255 ∧ e.broken ≤ 65535 ∧ e.late ≤ 65535
    ∧ e.duplicate ≤ 65535

/-- Every PRESENCE that an event makes due is made within that event (R175). -/
def State.presenceSettled (s : State) : Prop := s.control.presenceDue = false

/-- A station in SENDING has the slot of its record ON_LINK (R68, R72). -/
def State.sendingOnLink (s : State) : Prop :=
  ∀ k i p, s.link.mode = .sending k i p → ∃ r past ended, (s.queue.get k).state = .onLink r past ended

/-- The bounds of buffers and counts together. -/
def State.bounded (s : State) : Prop :=
  s.fifoBounded ∧ s.ringSound ∧ s.countersBounded ∧ s.linkCountsBounded ∧ s.rosterCountsBounded

/-- What the run state rules out, and the order of the live contexts. -/
def State.runSound (s : State) : Prop := s.idleOutsideRun ∧ s.barrierOnly ∧ s.tableOrdered

/-- What the link state says of the outgoing queue, and that no PRESENCE is left due. -/
def State.queueSound (s : State) : Prop := s.stoppedQueueEmpty ∧ s.sendingOnLink ∧ s.presenceSettled

/-- No reset holds the station, and no PRESENCE is due: where every command but those of a reset finds a
station that any run reaches. -/
def State.atRest (s : State) : Prop := s.hold = .free ∧ s.control.presenceDue = false

/-- The PRESENCE of a state is made and offered (R73, R175). -/
def State.presenceMade (s : State) : State := s.offer .presence s.presence

end Sys2Proof.Machine
end

