-- ==== Sys2Proof/Certificates/Slice0/Obligations.lean ====
section
/-! DEFINITION. The statements for the provers. -/

open Sys2Proof Sys2Proof.Machine

/-! ## The machine as a whole -/

/-- A step takes the command at the front of the queue and runs it on the state with the queue's rest; an
empty queue idles. -/
def Obligations.StepRunsTheFrontCommand : Prop :=
  (∀ (s : State) (c : Instr) (rest : List Instr),
    s.pending = c :: rest → step s = exec c (s.withPending rest))
  ∧ ∀ s : State, s.pending = [] → step s = .next s

/-- A command with operands that its event can carry completes and leaves the queue as it was; any other
faults. -/
def Obligations.WellFormedCommandsComplete : Prop :=
  ∀ (c : Instr) (s : State),
    (c.wf = true → ∃ t, exec c s = .next t ∧ t.pending = s.pending)
    ∧ (c.wf = false → exec c s = .fault .impossibleOperand)

/-- While a reset holds the station, no event but the end of a reset changes it (the model's reading,
notes/assumptions/5.md). -/
def Obligations.ResetHoldsOffEveryEvent : Prop :=
  ∀ (c : Instr) (s : State), s.hold ≠ .free → c.wf = true →
    (∀ straps low, c ≠ .powerOn straps low) → (∀ straps, c ≠ .resetNReleased straps) →
    exec c s = .next s

/-- The reset state is sound. -/
def Obligations.ResetStateIsSound : Prop :=
  State.reset.bounded ∧ State.reset.rosterSound ∧ State.reset.runSound ∧ State.reset.queueSound

/-- Buffers and counters stay within their bounds at every step. -/
def Obligations.BuffersAndCountsStayBounded : Prop :=
  ∀ s t : State, s.bounded → step s = .next t → t.bounded

/-- The roster stays in ascending number, without the station's own, at every step. -/
def Obligations.RosterStaysSound : Prop :=
  ∀ s t : State, s.rosterSound → step s = .next t → t.rosterSound

/-- The context table stays empty outside a run and holds consecutive epochs within it, and barrier flags
stay within BARRIER, at every step. -/
def Obligations.RunStateKeepsItsExclusions : Prop :=
  ∀ s t : State, s.runSound → step s = .next t → t.runSound

/-- A stopped link keeps its queue empty, a sender keeps its record ON_LINK, and the model's own flag of an
occasion for a PRESENCE is clear again, at every step. The flag is the model's choice (notes/assumptions/14.md):
that it is clear says that the occasion is dealt with, and the statements of single commands say with what. -/
def Obligations.LinkStateAgreesWithTheQueue : Prop :=
  ∀ s t : State, s.queueSound → step s = .next t → t.queueSound

/-! ## Resets -/

/-- POWER_ON: power-on values, then the straps: AWAIT_SETUP with one PRESENCE, or STRAP_FAULT with the link
controller stopped. With RESET_N low the straps are read at its release, and until then the state is the reset
state but for the reset that holds it: its number 0 and its AWAIT_SETUP before any strap is read are the model's
choice (notes/assumptions/3.md and 4.md), and no rule gives them. -/
def Obligations.PowerOnReadsTheStraps : Prop :=
  ∀ (straps : BitVec 5) (s : State),
    (straps.toNat ≤ 23 →
      exec (.powerOn straps false) s = .next
        { State.reset with
          hold := .free
          control := { Control.reset with number := straps.toNat, cause := .power, state := .awaitSetup }
          queue := { Queue.empty with presence :=
            { state := .unsent
                { header := { kind := 1, source := straps.toNat, target := 255, run := 0, epoch := 0,
                              digest := 0, frames := 1 }
                  body := .presence { runState := .awaitSetup, dut := .absent, cause := .power,
                                      setupHeld := false, events := 0, slips := 0 } }
              successor := none } }
          pending := s.pending })
    ∧ (24 ≤ straps.toNat →
      exec (.powerOn straps false) s = .next
        { State.reset with
          hold := .free
          control := { Control.reset with number := straps.toNat, cause := .power, state := .strapFault }
          link := { Link.reset with mode := .stopped }
          pending := s.pending })
    ∧ exec (.powerOn straps true) s = .next
        { State.reset with hold := .resetNFromPowerOn, pending := s.pending }

/-- RESET_N asserted: every block takes its reset values and every line is released; the setup store with its
digest, the attention mask, the history ring and the run number are kept (R168). RESET_N released: the reset
cause, the straps, and READY, AWAIT_SETUP or STRAP_FAULT; a PRESENCE is made in the first two. -/
def Obligations.ResetNKeepsAndReleaseReadsTheStraps : Prop :=
  (∀ s : State, s.hold = .free → ∃ t, exec .resetNAsserted s = .next t
    ∧ t.hold = .resetN ∧ t.control.held = s.control.held ∧ t.control.number = s.control.number
    ∧ t.control.cause = s.control.cause ∧ t.control.barrier = Barrier.none
    ∧ t.capture = Capture.reset ∧ t.epochs = { Epochs.reset with runNumber := s.epochs.runNumber }
    ∧ t.engine = PairEngine.reset ∧ t.solver = Solver.empty
    ∧ t.verdicts = { VerdictUnit.reset with mask := s.verdicts.mask, history := s.verdicts.history }
    ∧ t.roster = [] ∧ t.link = Link.reset ∧ t.queue = Queue.empty ∧ t.pending = s.pending
    ∧ t.attn = false ∧ t.drivesWait = false ∧ t.drivesOpen = false ∧ t.drivesClear = false
    ∧ t.drivesLink = .released)
  ∧ (∀ (straps : BitVec 5) (s : State), s.link = Link.reset → s.queue = Queue.empty →
    s.control.presenceDue = false →
    ∀ cause, (s.hold = .resetN ∧ cause = .pin ∨ s.hold = .resetNFromPowerOn ∧ cause = .power) →
    (straps.toNat ≤ 23 →
      let u : State := { s with
        hold := .free
        control := { s.control with
          number := straps.toNat, cause := cause,
          state := if s.control.held.isSome then .ready else .awaitSetup } }
      exec (.resetNReleased straps) s = .next
        { u with queue := { Queue.empty with
            presence := { state := .unsent u.presence, successor := none } } })
    ∧ (24 ≤ straps.toNat →
      exec (.resetNReleased straps) s = .next { s with
        hold := .free
        control := { s.control with number := straps.toNat, cause := cause, state := .strapFault }
        link := { Link.reset with mode := .stopped } }))

/-! ## Capture -/

/-- ACTIVITY_WINDOW_LIMIT: the report follows the window; a change outside RUNNING sets DUT_CHANGED, and a
PRESENCE is made where the station makes any. That PRESENCE carries the station's state as R82 and R86 lay down, and
is offered to its slot. -/
def Obligations.DetectorReportsAtWindowEnd : Prop :=
  (∀ (edges : Nat) (s : State), s.atRest →
    let report := decide (0 < edges)
    let u := s.withCapture { s.capture with active := report }
    (s.capture.active = report → exec (.activityWindowLimit edges) s = .next s)
    ∧ (s.capture.active ≠ report →
      (s.control.state = .running → exec (.activityWindowLimit edges) s = .next u)
      ∧ (s.control.state = .strapFault ∨ s.control.state = .conflict →
        exec (.activityWindowLimit edges) s = .next (u.raise .dutChanged))
      ∧ (s.control.state = .awaitSetup ∨ s.control.state = .ready ∨ s.control.state = .barrier →
        exec (.activityWindowLimit edges) s = .next (u.raise .dutChanged).presenceMade)))
  ∧ ∀ s : State, s.presenceMade = s.offer .presence
      { header := { kind := 1, source := s.control.number, target := 255, run := s.epochs.runNumber
                    epoch := s.epochs.counter, frames := 1
                    digest := match s.control.held with
                      | some h => h.digest
                      | none => 0 }
        body := .presence
          { runState := s.control.state, cause := s.control.cause, setupHeld := s.control.held.isSome
            events := 0, slips := s.capture.slips
            dut := match s.control.state, s.capture.dut with
              | .running, some .absent => .absent
              | .running, some .wrongFrequency => .wrongFrequency
              | .running, some .settling => .settling
              | .running, some .measuring => .measuring
              | _, _ => if s.capture.active = true then .active else .absent } }

/-- SYNC_PULSE in RUNNING: the activity detector's report follows its window without an event, and the alignment
check acts. A run count that is no multiple of 65,536 goes to the nearest one, halves going up, and the context in
CAPTURE is voided DISTURBED. Samples skipped forward are taken as adjusted ones; where the first of them is an
epoch boundary whose CAPTURE place is empty, its context is created and voided DISTURBED too, as R6 has it when
they are taken; a forward step that passes no sample takes none. After a step back the next sample is adjusted.
Outside RUNNING and BARRIER the pulse only ends the detector's window. That a passed check takes no sample of its
own, and that skipped samples queue behind a running timer with the pulse's edges given to the first, is the
model's reading (notes/assumptions/9.md). -/
def Obligations.SyncPulseAlignsTheRunCount : Prop :=
  (∀ (r : SyncReading) (s : State) (h : HeldSetup) (k : RunClock), s.atRest → r.timing.ok = true →
    s.control.state = .running → s.control.held = some h → s.capture.clock = some k →
    let base : Capture := { s.capture with active := decide (0 < r.windowEdges) }
    let c := k.count + r.elapsed
    let d := c % 65536
    let aligned := c - d + 65536
    let newest := aligned / 2 ^ h.setup.exponent
    let skipped : Capture := { base with
      clock := some { count := aligned, nextIndex := newest + 1 }
      awaiting := s.capture.awaiting ++
        [{ firstIndex := k.nextIndex, count := newest + 1 - k.nextIndex, adjusted := true,
           edges := r.edges }]
      nextAdjusted := false }
    let begun : Option EpochStats :=
      if s.engine.mode = some .period then
        some { count := 0, sum := 0, squares := 0, min := none, max := none }
      else none
    (d = 0 → exec (.syncPulse r) s = .next
      (s.withCapture { base with clock := some { k with count := c } }))
    ∧ (0 < d → d < 32768 → exec (.syncPulse r) s = .next
      ((s.voidCapture .disturbed).withCapture { base with
        clock := some { k with count := c - d }, nextAdjusted := true }))
    ∧ (32768 ≤ d → k.nextIndex ≤ newest → (k.nextIndex % 2048 ≠ 0 ∨ s.epochs.capture ≠ none) →
      exec (.syncPulse r) s = .next ((s.voidCapture .disturbed).withCapture skipped))
    ∧ (32768 ≤ d → k.nextIndex ≤ newest → k.nextIndex % 2048 = 0 → s.epochs.capture = none →
      exec (.syncPulse r) s = .next { s with
        capture := { skipped with raw := some { epoch := s.epochs.counter, entries := [] } }
        epochs := { s.epochs with
          capture := some { epoch := s.epochs.counter, void := some .disturbed, y := none,
                            selfValues := none, period := none, pairs := [], summaries := [] } }
        engine := { s.engine with stats := begun } })
    ∧ (32768 ≤ d → newest < k.nextIndex →
      exec (.syncPulse r) s = .next ((s.voidCapture .disturbed).withCapture
        { base with clock := some { k with count := aligned } })))
  ∧ ∀ (r : SyncReading) (s : State), s.atRest → r.timing.ok = true → s.control.state ≠ .running →
    s.control.state ≠ .barrier →
    exec (.syncPulse r) s = exec (.activityWindowLimit r.windowEdges) s

/-- SYNC_PULSE in BARRIER. A change of the activity detector's report at the pulse sets DUT_CHANGED and makes a
PRESENCE. Before the station is armed the barrier claim ends. At an armed station it is the
start instant: F_0 an edge gives SETTLING with the settle count loaded and the reference set, and the boundary
rule at once makes it MEASURING or takes one off the count; no edge gives ABSENT. In a PERIOD run the epoch
statistics begin, and sample 0 contributes when it is measured. DUT_CHANGED on the change to MEASURING is the
model's reading (notes/assumptions/6.md). So is that the detector's window ends before the run starts, and that a
report that changes at the start instant of an armed station thus sets DUT_CHANGED (notes/assumptions/7.md). -/
def Obligations.SyncPulseAtTheBarrier : Prop :=
  (∀ (r : SyncReading) (s : State), s.atRest → r.timing.ok = true → s.control.state = .barrier →
    s.control.barrier.armed = false →
    let report := decide (0 < r.windowEdges)
    let ended := s.withControl { s.control with barrier := { s.control.barrier with claim := false } }
    (s.capture.active = report → exec (.syncPulse r) s = .next ended)
    ∧ (s.capture.active ≠ report → exec (.syncPulse r) s = .next
      ((ended.withCapture { s.capture with active := report }).raise .dutChanged).presenceMade))
  ∧ ∀ (r : SyncReading) (s : State) (h : HeldSetup), s.atRest → r.timing.ok = true →
    s.control.state = .barrier → s.control.barrier.armed = true → s.control.held = some h →
    s.epochs.capture = none →
    let report := decide (0 < r.windowEdges)
    let unit : VerdictUnit := if s.capture.active = report then s.verdicts else s.verdicts.raise .dutChanged
    let n := h.setup.settleEpochs
    let nominal := roundHalfUp h.setup.tNom 65536
    let noStats : EpochStats := { count := 0, sum := 0, squares := 0, min := none, max := none }
    let begun : Option EpochStats := if h.setup.mode = .period then some noStats else none
    let started (c : Capture) (void : Option VoidReason) (v : VerdictUnit) (stats : Option EpochStats) :
        State :=
      { s with
        control := { s.control with
          state := .running, barrier := { claim := false, looking := false, armed := false } }
        capture := { c with
          clock := some { count := 0, nextIndex := 1 }, raw := some { epoch := 0, entries := [0] },
          slips := s.capture.slips, active := report, tNomRounded := some nominal }
        epochs := { s.epochs with
          counter := 0
          capture := some { epoch := 0, void := void, y := none, selfValues := none, period := none,
                            pairs := [], summaries := [] } }
        engine := { s.engine with mode := some h.setup.mode, stats := stats }
        verdicts := v }
    let measuring (f : Nat) : Capture := { Capture.reset with
      dut := some .measuring, settle := some 0, lastReading := some f,
      reference := some { index := 0, delay := f, edges := 0 } }
    (∀ f, r.timing.first = some f → n = 0 →
      (h.setup.mode = .hat → exec (.syncPulse r) s = .next
        (started (measuring f) none (unit.raise .dutChanged) none).presenceMade)
      ∧ (h.setup.mode = .period → r.timing.second = none → exec (.syncPulse r) s = .next
        (started (measuring f) (some .disturbed) (unit.raise .dutChanged) (some noStats)).presenceMade)
      ∧ (∀ f', h.setup.mode = .period → r.timing.second = some f' →
        let e : Int := (f' : Int) - f - nominal
        exec (.syncPulse r) s = .next
          (started (measuring f) none (unit.raise .dutChanged)
            (some { count := 1, sum := e, squares := e.natAbs ^ 2, min := some e,
                    max := some e })).presenceMade))
    ∧ (∀ f, r.timing.first = some f → 0 < n →
      exec (.syncPulse r) s = .next
        (started
          { Capture.reset with
            dut := some .settling, settle := some (n - 1), lastReading := some f,
            reference := some { index := 0, delay := f, edges := 0 } }
          (some .notMeasuring) unit begun).presenceMade)
    ∧ (r.timing.first = none →
      exec (.syncPulse r) s = .next
        (started { Capture.reset with dut := some .absent } (some .notMeasuring) unit
          begun).presenceMade)

/-- SAMPLE_INSTANT: the timer starts for the sample whose turn it is, the next sample index advances by one, and
at an epoch boundary whose CAPTURE place is empty the context is created in it with the epoch number the counter
holds. A sample that an adjustment has marked voids the context in CAPTURE DISTURBED, the one just created
included (R6). -/
def Obligations.SampleInstantTakesOneSample : Prop :=
  ∀ (edges : Nat) (s : State) (h : HeldSetup) (k : RunClock), s.atRest → s.control.state = .running →
    s.control.held = some h → s.capture.clock = some k →
    let begun : Option EpochStats :=
      if s.engine.mode = some .period then
        some { count := 0, sum := 0, squares := 0, min := none, max := none }
      else none
    let taken : Capture := { s.capture with
      clock := some { count := k.nextIndex * 2 ^ h.setup.exponent, nextIndex := k.nextIndex + 1 }
      awaiting := s.capture.awaiting ++
        [{ firstIndex := k.nextIndex, count := 1, adjusted := s.capture.nextAdjusted, edges := edges }]
      nextAdjusted := false }
    let marked : State := if s.capture.nextAdjusted = true then s.voidCapture .disturbed else s
    (k.nextIndex % 2048 ≠ 0 ∨ s.epochs.capture ≠ none →
      exec (.sampleInstant edges) s = .next (marked.withCapture taken))
    ∧ (k.nextIndex % 2048 = 0 → s.epochs.capture = none →
      exec (.sampleInstant edges) s = .next { s with
        capture := { taken with raw := some { epoch := s.epochs.counter, entries := [] } }
        epochs := { s.epochs with
          capture := some { epoch := s.epochs.counter, y := none, selfValues := none, period := none,
                            pairs := [], summaries := []
                            void := if s.capture.nextAdjusted = true then some .disturbed else none } }
        engine := { s.engine with stats := begun } })

/-- The end of the measurement of a good sample, or of an unknown one, which no reading precedes, for a MEASURING
DUT inside its epoch: SAMPLE_EDGE_TIMED in a HAT run by the first edge, in a PERIOD run by the second, whose
deviation joins the epoch statistics, and SAMPLE_TIMER_LIMIT in a PERIOD run without the second edge, which voids
the epoch DISTURBED. The time error of R7 is stored; a second difference above T_nom / 2 is counted as a slip and
voids the epoch DISTURBED, and a slip that finds the counter at 65,535 makes it 0 and sets SLIP_WRAPPED. A first
edge alone ends nothing in a PERIOD run. A sample of a SETTLING DUT whose class keeps it SETTLING, one of a
MEASURING DUT that R16 exempts (entry 0 or 1 of its epoch, the one after a detected slip, the two after an
adjusted one), and an adjusted sample, which has no class and leaves the DUT state, store their entry without a
slip check: the time error where there are a reference and a reading, otherwise 0. The two marks of R16 then move
on. A contribution to the epoch statistics of a PERIOD run is as for a checked sample, and none comes from an
adjusted one. An adjusted one voids the epoch DISTURBED, and any DUT that is not MEASURING voids it NOT_MEASURING.
At an epoch boundary the settle count of a SETTLING DUT goes down by one, or at 0 the DUT is MEASURING. Adjusted
samples that share a reading are processed one after another, the first with all the edges, which is the model's
reading, as is that each voids the context of its own epoch at its completion (notes/assumptions/9.md). The last
sample of an epoch closes it in the same step, and the close of the last epoch makes a PRESENCE. -/
def Obligations.GoodSampleStoresItsTimeError : Prop :=
  (∀ (s : State) (f : Nat), s.atRest → 1 ≤ f → f ≤ 20480000 → s.engine.mode = some .period →
    exec (.sampleEdgeTimed f none) s = .next s)
  ∧ (∀ (s : State) (h : HeldSetup) (ref : Reference) (i edges f epoch : Nat) (xs : List Int) (a b : Int)
      (c : Instr) (engine : PairEngine) (missing : Bool),
    s.atRest → s.control.state = .running → s.control.held = some h →
    s.capture.awaiting = [{ firstIndex := i, count := 1, adjusted := false, edges := edges }] →
    s.capture.dut = some .measuring → s.capture.reference = some ref →
    s.capture.raw = some { epoch := epoch, entries := xs ++ [a, b] } →
    s.capture.afterAdjusted = 0 → s.capture.slipBefore = false →
    2 ≤ i % 2048 → 1 ≤ f → f ≤ 20480000 → 1 ≤ edges →
    let tau := 2 ^ h.setup.exponent * 160000
    (∀ g, s.capture.lastReading = some g →
      (((edges * h.setup.tNom : Nat) : Int) - 65536 * ((tau : Int) + f - g)).natAbs ≤ 65536 * (tau / 64)) →
    (s.engine.mode = some .hat ∧ c = .sampleEdgeTimed f none ∧ engine = s.engine ∧ missing = false
      ∨ s.engine.mode = some .period ∧ c = .sampleTimerLimit (some f) ∧ engine = s.engine ∧ missing = true
      ∨ ∃ f' nominal stats, s.engine.mode = some .period ∧ c = .sampleEdgeTimed f (some f') ∧ f < f'
          ∧ f' ≤ 20480000 ∧ s.capture.tNomRounded = some nominal ∧ s.engine.stats = some stats
          ∧ engine = { s.engine with stats := some (stats.add ((f' : Int) - f - (nominal : Nat))) }
          ∧ missing = false) →
    let x : Int := ((i : Int) - ref.index) * tau + f - ref.delay
      - roundHalfUp ((ref.edges + edges) * h.setup.tNom) 65536
    let stored : Capture := { s.capture with
      awaiting := [], reference := some { ref with edges := ref.edges + edges },
      raw := some { epoch := epoch, entries := xs ++ [a, b, x] }, lastReading := some f,
      afterAdjusted := 0 }
    let at_ (cap : Capture) (disturbed : Bool) : State :=
      ((if disturbed then s.voidCapture .disturbed else s).withEngine engine).withCapture cap
    let completes (t : State) : Prop :=
      (i % 2048 < 2047 → exec c s = .next t)
      ∧ (i % 2048 = 2047 → ∀ y, s.epochs.capture = some y →
        let closed := t.closeEpoch h.setup
        (y.epoch < 16777215 → exec c s = .next closed)
        ∧ (16777215 ≤ y.epoch → exec c s = .next (State.presenceMade
            { closed with control := { closed.control with presenceDue := false } })))
    (2 * 65536 * (x - 2 * b + a).natAbs ≤ h.setup.tNom →
      completes (at_ { stored with slipBefore := false } missing))
    ∧ (h.setup.tNom < 2 * 65536 * (x - 2 * b + a).natAbs → s.capture.slips < 65535 →
      completes (at_ { stored with slipBefore := true, slips := s.capture.slips + 1 } true))
    ∧ (h.setup.tNom < 2 * 65536 * (x - 2 * b + a).natAbs → s.capture.slips = 65535 →
      completes ((at_ { stored with slipBefore := true, slips := 0 } true).raise .slipWrapped)))
  ∧ ∀ (s : State) (h : HeldSetup) (d : DutState) (reading second : Option Nat) (i edges epoch : Nat)
      (adjusted : Bool) (xs : List Int) (c : Instr),
    s.atRest → s.control.state = .running → s.control.held = some h → s.capture.dut = some d →
    s.capture.awaiting = [{ firstIndex := i, count := 1, adjusted := adjusted, edges := edges }] →
    s.capture.raw = some { epoch := epoch, entries := xs } → 0 < i → s.epochs.capture ≠ none →
    (reading = none ∧ second = none ∧ c = .sampleTimerLimit none
      ∨ ∃ f, reading = some f ∧ 1 ≤ f ∧ f ≤ 20480000
        ∧ (s.engine.mode = some .hat ∧ second = none ∧ c = .sampleEdgeTimed f none
          ∨ s.engine.mode = some .period ∧ second = none ∧ c = .sampleTimerLimit (some f)
          ∨ s.engine.mode = some .period ∧ ∃ f', second = some f' ∧ f < f' ∧ f' ≤ 20480000
            ∧ c = .sampleEdgeTimed f (some f'))) →
    let tau := 2 ^ h.setup.exponent * 160000
    (adjusted = true
      ∨ (d = .settling
          ∨ d = .measuring ∧ (i % 2048 < 2 ∨ s.capture.slipBefore = true ∨ 0 < s.capture.afterAdjusted))
        ∧ 1 ≤ edges ∧ reading ≠ none
        ∧ ∀ f g, reading = some f → s.capture.lastReading = some g →
          (((edges * h.setup.tNom : Nat) : Int) - 65536 * ((tau : Int) + f - g)).natAbs
            ≤ 65536 * (tau / 64)) →
    let next : DutState := if i % 2048 = 0 ∧ d = .settling ∧ s.capture.settle = some 0 then .measuring else d
    let x : Int := match s.capture.reference, reading with
      | some ref, some f => ((i : Int) - ref.index) * tau + f - ref.delay
          - roundHalfUp ((ref.edges + edges) * h.setup.tNom) 65536
      | _, _ => 0
    let deviates : Prop := s.engine.mode = some .period ∧ next = .measuring
    let stats : Option EpochStats := match reading, second with
      | some f, some f' => s.engine.stats.map fun t =>
          t.add ((f' : Int) - f - (s.capture.tNomRounded.getD 0 : Nat))
      | _, _ => s.engine.stats
    let marked : State := if adjusted = true ∨ deviates ∧ second = none then s.voidCapture .disturbed else s
    let counted : State :=
      if deviates ∧ adjusted = false then marked.withEngine { s.engine with stats := stats } else marked
    let voided : State := if next = .measuring then counted else counted.voidCapture .notMeasuring
    let stored : Capture := { s.capture with
      awaiting := [], reference := s.capture.reference.map fun ref => { ref with edges := ref.edges + edges }
      raw := some { epoch := epoch, entries := xs ++ [x] }, lastReading := reading, slipBefore := false
      afterAdjusted := if adjusted = true then 2 else s.capture.afterAdjusted - 1 }
    (1 ≤ i % 2048 ∧ i % 2048 < 2047 ∨ i % 2048 = 0 ∧ d ≠ .settling →
      exec c s = .next (voided.withCapture stored))
    ∧ (i % 2048 = 2047 → ∀ y, s.epochs.capture = some y →
      let closed := (voided.withCapture stored).closeEpoch h.setup
      (y.epoch < 16777215 → exec c s = .next closed)
      ∧ (16777215 ≤ y.epoch → exec c s = .next (State.presenceMade
          { closed with control := { closed.control with presenceDue := false } })))
    ∧ (i % 2048 = 0 → d = .settling →
      (∀ n, s.capture.settle = some (n + 1) →
        exec c s = .next (voided.withCapture { stored with settle := some n }))
      ∧ (s.capture.settle = some 0 →
        exec c s = .next (((voided.withCapture { stored with dut := some .measuring }).raise
          .dutChanged).presenceMade)))
    ∧ (∀ n, adjusted = true → 1 ≤ i % 2048 → i % 2048 < 2047 →
      let owing (t : State) (first count edges : Nat) : State := t.withCapture { t.capture with
        awaiting := [{ firstIndex := first, count := count, adjusted := true, edges := edges }] }
      exec c (owing s i (n + 2) edges) = exec c (owing (voided.withCapture stored) (i + 1) (n + 1) 0))

/-- SAMPLE_TIMER_LIMIT without a first edge, on a sample of a DUT that was not ABSENT and that is no epoch
boundary: the sample is lost, the DUT is ABSENT, the reference is discarded, the entry is 0, the epoch is voided
NOT_MEASURING, and DUT_CHANGED is set; the last sample of an epoch closes it; then a PRESENCE is made. And any
classified sample behind which the DUT is ABSENT or WRONG_FREQUENCY, or at which it is found again, whatever
command completes it and wherever it stands in its epoch: a lost or a wrong one discards the reference and moves
the DUT to ABSENT or WRONG_FREQUENCY, an unknown one leaves an ABSENT or WRONG_FREQUENCY DUT, and a good one
re-acquires it as SETTLING with itself as the reference and the settle count loaded, to which an epoch boundary
applies R13 at once. DUT_CHANGED is set and a PRESENCE made only where the DUT state changes. -/
def Obligations.LostSampleVoidsTheEpoch : Prop :=
  (∀ (s : State) (h : HeldSetup) (d : DutState) (raw : RawStore) (i edges : Nat),
    s.atRest → s.control.state = .running → s.control.held = some h →
    s.capture.awaiting = [{ firstIndex := i, count := 1, adjusted := false, edges := edges }] →
    s.capture.dut = some d → d ≠ .absent → s.capture.raw = some raw →
    1 ≤ i % 2048 →
    let lost : State := ((s.voidCapture .notMeasuring).withCapture { s.capture with
      awaiting := [], reference := none, dut := some .absent, lastReading := none, slipBefore := false,
      afterAdjusted := s.capture.afterAdjusted - 1,
      raw := some { raw with entries := raw.entries ++ [0] } }).raise .dutChanged
    (i % 2048 < 2047 → exec (.sampleTimerLimit none) s = .next lost.presenceMade)
    ∧ (i % 2048 = 2047 →
      let closed := lost.closeEpoch h.setup
      exec (.sampleTimerLimit none) s = .next (State.presenceMade
        { closed with control := { closed.control with presenceDue := false } })))
  ∧ ∀ (s : State) (h : HeldSetup) (d : DutState) (reading second : Option Nat) (i edges epoch : Nat)
      (xs : List Int) (c : Instr),
    s.atRest → s.control.state = .running → s.control.held = some h → s.capture.dut = some d →
    s.capture.awaiting = [{ firstIndex := i, count := 1, adjusted := false, edges := edges }] →
    s.capture.raw = some { epoch := epoch, entries := xs } → 0 < i → s.epochs.capture ≠ none →
    (reading = none ∧ second = none ∧ c = .sampleTimerLimit none
      ∨ ∃ f, reading = some f ∧ 1 ≤ f ∧ f ≤ 20480000
        ∧ (s.engine.mode = some .hat ∧ second = none ∧ c = .sampleEdgeTimed f none
          ∨ s.engine.mode = some .period ∧ second = none ∧ c = .sampleTimerLimit (some f)
          ∨ s.engine.mode = some .period ∧ ∃ f', second = some f' ∧ f < f' ∧ f' ≤ 20480000
            ∧ c = .sampleEdgeTimed f (some f'))) →
    let tau := 2 ^ h.setup.exponent * 160000
    let off (f g : Nat) : Nat := (((edges * h.setup.tNom : Nat) : Int) - 65536 * ((tau : Int) + f - g)).natAbs
    let deviation (f f' : Nat) : Int := (f' : Int) - f - (s.capture.tNomRounded.getD 0 : Nat)
    let leaves (next : DutState) (settle : Option Nat) (ref : Option Reference) (x : Int) : Prop :=
      let cap : Capture := { s.capture with
        awaiting := [], dut := some next, settle := settle, reference := ref
        raw := some { epoch := epoch, entries := xs ++ [x] }, lastReading := reading, slipBefore := false
        afterAdjusted := s.capture.afterAdjusted - 1 }
      let voided : State := if next ≠ .measuring then s.voidCapture .notMeasuring
        else if s.engine.mode ≠ some .period then s
        else match reading, second with
          | some f, some f' => s.withEngine { s.engine with stats := s.engine.stats.map (·.add (deviation f f')) }
          | _, _ => s.voidCapture .disturbed
      let t := voided.withCapture cap
      let t := if next = d then t else t.raise .dutChanged
      (i % 2048 ≠ 2047 → exec c s = .next (if next = d then t else t.presenceMade))
      ∧ (i % 2048 = 2047 → ∀ y, s.epochs.capture = some y →
        let closed := t.closeEpoch h.setup
        (next = d ∧ y.epoch < 16777215 → exec c s = .next closed)
        ∧ (next ≠ d ∨ 16777215 ≤ y.epoch → exec c s = .next (State.presenceMade
            { closed with control := { closed.control with presenceDue := false } })))
    (reading = none ∨ edges = 0 → leaves .absent s.capture.settle none 0)
    ∧ (∀ f g, reading = some f → 1 ≤ edges → s.capture.lastReading = some g → 65536 * (tau / 64) < off f g →
      leaves .wrongFrequency s.capture.settle none 0)
    ∧ ((d = .absent ∨ d = .wrongFrequency) → ∀ f, reading = some f → 1 ≤ edges →
      (s.capture.lastReading = none →
        leaves d s.capture.settle (s.capture.reference.map fun ref => { ref with edges := ref.edges + edges })
          (match s.capture.reference with
            | some ref => ((i : Int) - ref.index) * tau + f - ref.delay
                - roundHalfUp ((ref.edges + edges) * h.setup.tNom) 65536
            | none => 0))
      ∧ ∀ g, s.capture.lastReading = some g → off f g ≤ 65536 * (tau / 64) →
        let ref : Reference := { index := i, delay := f, edges := 0 }
        (i % 2048 ≠ 0 → leaves .settling (some h.setup.settleEpochs) (some ref) 0)
        ∧ (i % 2048 = 0 → h.setup.settleEpochs = 0 → leaves .measuring (some 0) (some ref) 0)
        ∧ ∀ n, i % 2048 = 0 → h.setup.settleEpochs = n + 1 → leaves .settling (some n) (some ref) 0)

/-- The classes of a sample, first match first (R11), and what each makes of the DUT state (R12): lost and
wrong discard the reference, unknown changes nothing, good re-acquires from ABSENT and WRONG_FREQUENCY. -/
def Obligations.SampleClassMovesTheDutState : Prop :=
  (∀ (u : Setup) (last : Option Nat) (edges : Nat), classifySample u last none edges = .lost)
  ∧ (∀ (u : Setup) (last : Option Nat) (f : Nat), classifySample u last (some f) 0 = .lost)
  ∧ (∀ (u : Setup) (f edges : Nat), 1 ≤ edges → classifySample u none (some f) edges = .unknown)
  ∧ (∀ (u : Setup) (f g edges : Nat), 1 ≤ edges →
      let tau := 2 ^ u.exponent * 160000
      let off := (((edges * u.tNom : Nat) : Int) - 65536 * ((tau : Int) + f - g)).natAbs
      (65536 * (tau / 64) < off → classifySample u (some g) (some f) edges = .wrong)
      ∧ (off ≤ 65536 * (tau / 64) → classifySample u (some g) (some f) edges = .good))
  ∧ ∀ (s : State) (u : Setup) (i f : Nat) (reading : Option Nat) (d : DutState), s.capture.dut = some d →
      (s.applyClass u i reading .lost).capture
        = { s.capture with reference := none, dut := some .absent }
      ∧ s.applyClass u i reading .unknown = s
      ∧ (s.applyClass u i reading .wrong).capture
        = { s.capture with reference := none, dut := some .wrongFrequency }
      ∧ (d = .absent ∨ d = .wrongFrequency →
          (s.applyClass u i (some f) .good).capture
            = { s.capture with
                dut := some .settling, settle := some u.settleEpochs,
                reference := some { index := i, delay := f, edges := 0 } })
      ∧ (d = .settling ∨ d = .measuring → s.applyClass u i (some f) .good = s)

/-- The void reasons stand in the order NOT_MEASURING, DISTURBED, WANDER, highest first, and a context
carries the highest raised (R22). The reasons of a run are raised on the context in CAPTURE. -/
def Obligations.VoidReasonsStandInOrder : Prop :=
  (∀ (c : Context),
    (c.void = none → ∀ r, c.raise r = { c with void := some r })
    ∧ (c.void = some .wander →
        c.raise .wander = c ∧ c.raise .disturbed = { c with void := some .disturbed }
        ∧ c.raise .notMeasuring = { c with void := some .notMeasuring })
    ∧ (c.void = some .disturbed →
        c.raise .wander = c ∧ c.raise .disturbed = c
        ∧ c.raise .notMeasuring = { c with void := some .notMeasuring })
    ∧ (c.void = some .notMeasuring → ∀ r, c.raise r = c))
  ∧ ∀ (s : State) (r : VoidReason),
      (s.epochs.capture = none → s.voidCapture r = s)
      ∧ ∀ c, s.epochs.capture = some c →
        s.voidCapture r = { s with epochs := { s.epochs with capture := some (c.raise r) } }

/-! ## Closes and period values -/

/-- What the capture unit forms at a close from the time errors x_0 … x_2047, with Δ = x_2047 − x_0: y is
−Δ × 10⁹ / (2047 × τ0) ppb to the nearest whole number, halves going away from zero, held within ±2,000,000; r_i
is x_i − x_0 less i × Δ / 2047 to the nearest whole number, held within ±8,388,607 tu; the residuals begin and
end at 0. -/
def Obligations.ResidualsAndOffsetStayInRange : Prop :=
  ∀ xs : List Int, xs.length = 2048 →
    let drift := xs.getD 2047 0 - xs.getD 0 0
    (residualsOf xs).length = 2048
    ∧ (residualsOf xs).getD 0 1 = 0 ∧ (residualsOf xs).getD 2047 1 = 0
    ∧ (∀ r ∈ residualsOf xs, -8388607 ≤ r ∧ r ≤ 8388607)
    ∧ (∀ i : Nat, i < 2048 → ∃ w : Int, 2 * (2047 * w - i * drift).natAbs < 2047
        ∧ (residualsOf xs).getD i 0 = max (-8388607) (min 8388607 (xs.getD i 0 - xs.getD 0 0 - w)))
    ∧ ∀ u : Setup,
        let span : Nat := 2047 * (2 ^ u.exponent * 160000)
        (-2000000 ≤ offsetOf u xs ∧ offsetOf u xs ≤ 2000000)
        ∧ ∃ w : Int, 2 * (span * w + drift * 10 ^ 9).natAbs ≤ span
          ∧ (2 * (span * w + drift * 10 ^ 9).natAbs = span → (drift * 10 ^ 9).natAbs < (span * w).natAbs)
          ∧ offsetOf u xs = max (-2000000) (min 2000000 w)

/-- A close that does not end the run. The context finished: y and WANDER, unless it is voided NOT_MEASURING. In a
PERIOD run one without a void reason takes the period values of the epoch statistics, and any void reason leaves
it without them. With no void reason in HAT mode the own residual store takes the residuals, a PHASE of them is
offered, and the self-value computation begins. Then each context moves one place on: CAPTURE to EXCHANGE with a
fresh table, EXCHANGE to SUMMARY_WAIT with its table frozen or straight to the solver, SUMMARY_WAIT to the solver;
and the epoch counter advances. The SUMMARY slot meets the deadline of epoch n − 2 and the PHASE slot that of n −
1, as R75 lays down; a SUMMARY of the frozen table's DONE entries is offered; and the deadline reaches the roster,
as R101 and R102 lay down, where that context has no void reason in HAT mode. A current PHASE still open is
abandoned and counted as broken, and a FIRST frame of it that still waits leaves the FIFO. The close of epoch
16,777,215 is handled in full and ends the run as a STOP does: every context and solve is abandoned, PHASE and
SUMMARY slots are cleared, the run-close verdict is given, the counter stays, and the station is READY with a
PRESENCE due. That the raw store holds no epoch after a close is the model's choice (notes/assumptions/37.md).
That an entry which holds no run number last heard does not excuse its peer at the deadline is the model's reading
(notes/assumptions/29.md). -/
def Obligations.CloseMovesTheContextsOn : Prop :=
  (∀ (s : State) (u : Setup) (c : Context), s.epochs.capture = some c → c.epoch < 16777215 →
    s.engine.inHand = none → s.engine.selfFor = none →
    let t := s.closeEpoch u
    let frozen (x : Context) : Context := { x with pairs := freezePairs x.pairs }
    let xs := (s.capture.raw.map (·.entries)).getD []
    let d := c.finish u xs s.engine.stats
    let yields (x : Context) : Prop := x.void = none ∧ s.engine.mode ≠ some .period
    let made (kind epoch : Nat) (b : Body) : Record :=
      { header := { kind := kind, source := s.control.number, target := 255, run := s.epochs.runNumber,
                    epoch := epoch, digest := s.ownDigest, frames := frameCount (9 + b.bytes.length) }
        body := b }
    let due (k : SlotKind) (back : Nat) (sl : Slot) (n : LinkCounts) : Slot × LinkCounts :=
      if back ≤ c.epoch then Slot.deadline k (c.epoch - back) sl n else (sl, n)
    t.epochs.capture = none ∧ t.epochs.counter = s.epochs.counter + 1 ∧ t.capture.raw = none
    ∧ (∃ e, t.epochs.exchange = some e ∧ e.epoch = c.epoch ∧ e.pairs = freshPairs s.control.number
        ∧ e.summaries = [] ∧ e.void = d.void ∧ e.y = d.y ∧ e.period = d.period)
    ∧ (d.void ≠ none → c.period = none → d.period = none)
    ∧ (d.void = none → s.engine.stats = none → d.period = none)
    ∧ (d.void = none → ∀ st, s.engine.stats = some st → ∃ v, d.period = some v
        ∧ v.variance = ((st.count * st.squares : Nat) - st.sum * st.sum).toNat / (st.count * st.count)
        ∧ v.rms ^ 2 ≤ v.variance ∧ v.variance < (v.rms + 1) ^ 2
        ∧ ∀ low high, st.min = some low → st.max = some high → v.peak = (high - low).toNat)
    ∧ (c.void = some .notMeasuring → d.void = c.void ∧ d.y = c.y)
    ∧ (c.void ≠ some .notMeasuring → d.y = some (offsetOf u xs)
        ∧ (c.void ≠ none → d.void = c.void)
        ∧ (c.void = none → (d.void = none ∧ (∀ r ∈ detrended xs, -8388607 ≤ r ∧ r ≤ 8388607)
            ∨ d.void = some .wander ∧ ∃ r ∈ detrended xs, ¬(-8388607 ≤ r ∧ r ≤ 8388607))))
    ∧ (s.epochs.exchange = none → t.epochs.summaryWait = none
        ∧ t.solver.waiting = s.solver.waiting ++ s.epochs.summaryWait.toList)
    ∧ (∀ x, s.epochs.exchange = some x → x.void = none → (frozen x).mayEarly = false →
        t.epochs.summaryWait = some (frozen x)
        ∧ t.solver.waiting = s.solver.waiting ++ s.epochs.summaryWait.toList)
    ∧ (∀ x, s.epochs.exchange = some x → x.void ≠ none ∨ (frozen x).mayEarly = true →
        t.epochs.summaryWait = none
        ∧ t.solver.waiting = s.solver.waiting ++ s.epochs.summaryWait.toList ++ [frozen x])
    ∧ (yields d → t.engine.ownStore = some { epoch := c.epoch, residuals := residualsOf xs }
        ∧ t.engine.selfFor = some c.epoch ∧ t.engine.closeHold = true)
    ∧ (¬yields d → t.engine.ownStore = none ∧ t.engine.selfFor = none ∧ t.engine.closeHold = false)
    ∧ (s.link.mode ≠ .stopped →
        ∀ phase summary report,
          (yields d ∧ phase = Slot.offer .phase (made 2 c.epoch (.phase (residualsOf xs))) s.queue.phase
              s.link.counts
            ∨ ¬yields d ∧ phase = (s.queue.phase, s.link.counts)) →
          summary = due .summary 2 s.queue.summary phase.2 →
          ((∃ x, s.epochs.exchange = some x ∧ yields x
              ∧ report = Slot.offer .summary (made 3 x.epoch (.summary (donePairs x.pairs))) summary.1
                  (due .phase 1 phase.1 summary.2).2)
            ∨ (∀ x, s.epochs.exchange = some x → ¬yields x)
              ∧ report = (summary.1, (due .phase 1 phase.1 summary.2).2)) →
          t.queue = { s.queue with
              phase := (due .phase 1 phase.1 summary.2).1, summary := report.1 }
            ∧ t.link.counts = report.2)
    ∧ (s.link.fifo = [] → (∀ x, s.epochs.exchange = some x → receivingPeers x.pairs = []) →
        (∀ x, s.epochs.exchange = some x → yields x →
          t.roster = s.roster.map fun e => e.deadline (doneIn x.pairs e.peer) s.epochs.runNumber)
        ∧ ((∀ x, s.epochs.exchange = some x → ¬yields x) → t.roster = s.roster))
    ∧ (∀ x o, s.epochs.exchange = some x → yields x → s.link.opened = some o → o.holding = .current →
        receivingPeers x.pairs = [o.header.source] →
        (o.taken = 0 ∧ (∃ e, s.link.fifo = [e] ∧ e.lost = false) ∨ 1 ≤ o.taken ∧ s.link.fifo = []) →
        t.link.fifo = []
        ∧ t.link.opened = some { o with taken := max 1 o.taken, holding := .discarded, counted := true }
        ∧ t.roster = (s.countBroken o.header.source).roster.map fun e =>
            e.deadline (doneIn x.pairs e.peer) s.epochs.runNumber))
  ∧ (∀ (s : State) (h : HeldSetup) (c : Context), s.control.held = some h → s.epochs.capture = some c →
    c.epoch = 16777215 → s.engine.inHand = none → s.engine.selfFor = none →
    let t := s.closeEpoch h.setup
    let xs := (s.capture.raw.map (·.entries)).getD []
    let d := c.finish h.setup xs s.engine.stats
    let yields (x : Context) : Prop := x.void = none ∧ s.engine.mode ≠ some .period
    let made (kind epoch : Nat) (b : Body) : Record :=
      { header := { kind := kind, source := s.control.number, target := 255, run := s.epochs.runNumber,
                    epoch := epoch, digest := s.ownDigest, frames := frameCount (9 + b.bytes.length) }
        body := b }
    let v : VerdictUnit := { s.verdicts with dutAtEnd := s.capture.dut }
    let f : Finding := v.runClose h.setup s.inPeriod
    let p : Reported := (v.reportedSet h.setup s.inPeriod).getD
      { reading := .bound, grade := .none, n := 0, q := [], figure := 0
        bands := [0, 0, 0, 0, 0, 0, 0, 0], j := 0 }
    let b : VerdictBody :=
      { verdict := f.verdict, reason := f.reason, reasonBand := f.band, grade := p.grade, n := p.n,
        mode := h.setup.mode, belowFloor := 0, runClose := true, events := 0, slips := s.capture.slips,
        y := s.verdicts.lastY.getD 0, bands := p.bands, figure := p.j,
        separatedCount := s.verdicts.separated.count
        boundCount := if s.inPeriod = true then s.verdicts.period.count else s.verdicts.bound.count }
    t.control = { s.control with state := .ready, presenceDue := true }
    ∧ t.epochs = { s.epochs with capture := none, exchange := none, summaryWait := none }
    ∧ t.solver = { running := none, waiting := [] }
    ∧ t.capture = { Capture.reset with
        slips := s.capture.slips, active := s.capture.active, tNomRounded := s.capture.tNomRounded }
    ∧ t.engine = { PairEngine.reset with mode := s.engine.mode }
    ∧ t.verdicts.dutAtEnd = s.capture.dut ∧ t.verdicts.newest = s.verdicts.newest
    ∧ (∃ e, t.verdicts.history = ringJoin s.verdicts.history e ∧ e.run = s.epochs.runNumber
        ∧ e.epoch = s.epochs.counter ∧ e.runClose = true ∧ e.verdict = f.verdict ∧ e.reason = f.reason
        ∧ e.reasonBand = f.band ∧ e.y = s.verdicts.lastY.getD 0 ∧ e.grade = p.grade ∧ e.n = p.n
        ∧ e.bands = p.bands ∧ e.figure = p.j)
    ∧ t.verdicts.events = s.verdicts.events ||| (if f.verdict = .fail then 0x02 else 0)
    ∧ (s.link.mode ≠ .stopped →
        ∀ phase summary report : Slot × LinkCounts,
          (yields d ∧ phase = Slot.offer .phase (made 2 c.epoch (.phase (residualsOf xs))) s.queue.phase
              s.link.counts
            ∨ ¬yields d ∧ phase = (s.queue.phase, s.link.counts)) →
          summary = Slot.deadline .summary 16777213 s.queue.summary phase.2 →
          let past := Slot.deadline .phase 16777214 phase.1 summary.2
          ((∃ x, s.epochs.exchange = some x ∧ yields x
              ∧ report = Slot.offer .summary (made 3 x.epoch (.summary (donePairs x.pairs))) summary.1 past.2)
            ∨ (∀ x, s.epochs.exchange = some x → ¬yields x) ∧ report = (summary.1, past.2)) →
          let verdict := Slot.offer .verdict (made 4 s.epochs.counter (.verdict b)) s.queue.verdict report.2
          t.queue = { s.queue with
              phase := past.1.endRun, summary := report.1.endRun, verdict := verdict.1 }
            ∧ t.link.counts = verdict.2)
    ∧ (s.link.fifo = [] → (∀ o, s.link.opened = some o → o.holding ≠ .current) →
        (∀ x, s.epochs.exchange = some x → receivingPeers x.pairs = []) →
        (∀ x, s.epochs.exchange = some x → yields x →
          t.roster = s.roster.map fun e => e.deadline (doneIn x.pairs e.peer) s.epochs.runNumber)
        ∧ ((∀ x, s.epochs.exchange = some x → ¬yields x) → t.roster = s.roster)))
  ∧ (∀ (k : SlotKind) (n : Nat) (sl : Slot) (c : LinkCounts) (r : Record) (past ended : Bool),
      (sl.state = .empty ∧ sl.successor = none → Slot.deadline k n sl c = (sl, c))
      ∧ (sl.state = .unsent r → sl.successor = none →
          (r.header.epoch = n →
            Slot.deadline k n sl c = ({ state := .empty, successor := none }, c.withdraw k))
          ∧ (r.header.epoch ≠ n → Slot.deadline k n sl c = (sl, c)))
      ∧ (sl.state = .onLink r past ended →
          let marked : SlotState := if r.header.epoch = n then .onLink r true ended else .onLink r past ended
          (sl.successor = none → Slot.deadline k n sl c = ({ state := marked, successor := none }, c))
          ∧ ∀ q, sl.successor = some q →
            (q.header.epoch = n →
              Slot.deadline k n sl c = ({ state := marked, successor := none }, c.withdraw k))
            ∧ (q.header.epoch ≠ n →
              Slot.deadline k n sl c = ({ state := marked, successor := some q }, c))))
  ∧ (∀ c : LinkCounts,
      c.withdraw .phase = { c with phaseWithdrawn := min 65535 (c.phaseWithdrawn + 1) }
      ∧ c.withdraw .summary = { c with summaryWithdrawn := min 65535 (c.summaryWithdrawn + 1) })
  ∧ (∀ (ps : List PairEntry) (j : Nat), doneIn ps j = true ↔ ∃ vs, { peer := j, state := .done vs } ∈ ps)
  ∧ (∀ (own : Nat) (ps : List PairEntry) (j : Nat) (st : PairState) (vs : List Nat),
      ({ peer := j, state := st } ∈ freshPairs own ↔ j ≤ 23 ∧ j ≠ own ∧ st = .none)
      ∧ freezePairs ps = ps.map (fun p => { p with state := match p.state with
          | .receiving _ _ => .broken
          | kept => kept })
      ∧ (j ∈ receivingPeers ps ↔ ∃ sums next, { peer := j, state := .receiving sums next } ∈ ps)
      ∧ ({ peer := j, values := vs } ∈ donePairs ps ↔ { peer := j, state := .done vs } ∈ ps)
      ∧ (ps.Pairwise (fun a b => a.peer < b.peer) → (donePairs ps).Pairwise fun a b => a.peer < b.peer))
  ∧ (∀ x : Context, x.mayEarly = true ↔
      ∀ q ∈ x.pairs, ∀ vs, q.state = .done vs → ∃ m ∈ x.summaries, m.source = q.peer)
  ∧ ∀ (e : RosterEntry) (run : Nat),
      let missed := min 255 (e.missed + 1)
      let excused := (∃ x, e.run = some x ∧ x ≠ run) ∨ (∃ x, e.runState = some x ∧ x ≠ .running)
        ∨ ∃ x, e.dut = some x ∧ x ≠ .measuring
      (e.state = .unheard → ∀ done, e.deadline done run = e)
      ∧ ((e.state = .heard ∨ e.state = .partner ∨ e.state = .quiet) →
          e.deadline true run = { e with state := .partner, missed := 0 })
      ∧ ((e.state = .alien ∨ e.state = .suspect) → e.deadline true run = { e with missed := 0 })
      ∧ (excused → ((e.state = .partner ∨ e.state = .quiet) → e.deadline false run = { e with state := .heard })
          ∧ ((e.state = .heard ∨ e.state = .alien ∨ e.state = .suspect) → e.deadline false run = e))
      ∧ (¬excused →
          ((e.state = .heard ∨ e.state = .alien ∨ e.state = .suspect) →
            e.deadline false run = { e with missed := missed })
          ∧ (e.state = .partner → e.deadline false run = { e with state := .quiet, missed := missed })
          ∧ (e.state = .quiet → e.deadline false run = { e with
              state := if 4 ≤ missed then .heard else .quiet, missed := missed }))

/-- The period values of an epoch whose contributions are `es`: the variance is
floor((c × Σe² − (Σe)²) / c²) with a numerator that is never negative, the RMS its floored root, and the
peak-to-peak bounds the distance of any two contributions and is that of two of them. -/
def Obligations.PeriodValuesFollowTheStatistics : Prop :=
  ∀ es : List Int, es ≠ [] →
    let stats := es.foldl EpochStats.add EpochStats.start
    let c := es.length
    let squares := (es.map fun e => e * e).sum
    0 ≤ c * squares - es.sum * es.sum
    ∧ (stats.values.variance : Int) = (c * squares - es.sum * es.sum) / (c * c)
    ∧ stats.values.rms ^ 2 ≤ stats.values.variance
    ∧ stats.values.variance < (stats.values.rms + 1) ^ 2
    ∧ (∀ a ∈ es, ∀ b ∈ es, a - b ≤ stats.values.peak)
    ∧ ∃ a ∈ es, ∃ b ∈ es, a - b = stats.values.peak

/-! ## The pair engine -/

/-- SELF_VALUES_DONE: W_0 … W_7 over the own residuals are written together into the epoch's context, and
the close hold ends. -/
def Obligations.SelfValuesAreWrittenTogether : Prop :=
  ∀ (s : State) (c : Context) (n : Nat) (rs : List Int), s.atRest → s.engine.selfFor = some n →
    s.engine.ownStore = some { epoch := n, residuals := rs } → s.epochs.exchange = some c → c.epoch = n →
    exec .selfValuesDone s = .next { s with
      epochs := { s.epochs with exchange := some { c with
        selfValues := some ((List.range 8).map fun k => scaleValue (scaleSum rs k) k) } }
      engine := { s.engine with selfFor := none, closeHold := false } }

/-- The engine's running sums over the differences, taken one residual at a time and only two back per scale, are
the scale sums of R109 over the whole sequence; and cutting the residuals into frames changes nothing, since
taking two stretches one after the other is taking them together. S_k sums the squared second differences at span
2^k over 2^(11−k) − 2 terms, and the value is S_k over that number to the nearest whole number, halves going up.
-/
def Obligations.RunningSumsAreTheScaleSums : Prop :=
  (∀ own peer : List Int, own.length = 2048 → peer.length = 2048 →
    (consume own peer 0 WorkBuffer.empty.held (List.replicate 8 0)).2.2
      = (List.range 8).map fun k => scaleSum (List.zipWith (· - ·) own peer) k)
  ∧ (∀ (own a b : List Int) (next : Nat) (held : List (List Int)) (sums : List Nat),
    consume own (a ++ b) next held sums
      = (let m := consume own a next held sums
         consume own b m.1 m.2.1 m.2.2))
  ∧ (∀ (ds : List Int) (k : Nat), k < 8 → scaleSum ds k = ((List.range (2 ^ (11 - k) - 2)).map fun t =>
      (ds.getD ((t + 2) * 2 ^ k) 0 - 2 * ds.getD ((t + 1) * 2 ^ k) 0 + ds.getD (t * 2 ^ k) 0).natAbs ^ 2).sum)
  ∧ ∀ sum k : Nat, k < 8 →
      let terms := 2 ^ (11 - k) - 2
      2 * sum < (2 * scaleValue sum k + 1) * terms ∧ 2 * scaleValue sum k * terms ≤ 2 * sum + terms

/-- Two stations that took each other's residuals whole hold equal values for their pair. -/
def Obligations.BothEndsFormTheSamePairValues : Prop :=
  ∀ a b : List Int, a.length = b.length →
    scaleValues ((List.range 8).map (scaleSum (List.zipWith (· - ·) a b)))
      = scaleValues ((List.range 8).map (scaleSum (List.zipWith (· - ·) b a)))

/-- PHASE_FIRST_FRAME of a PHASE of the station's own run, setup and open epoch: heard, and current where the pair
entry is NONE or BROKEN: the entry opens RECEIVING from zero. A change of one entry leaves every other as it is.
-/
def Obligations.CurrentPhaseOpensItsPairEntry : Prop :=
  (∀ (s : State) (o : OpenRecord) (e : FifoEntry) (rest : List FifoEntry) (c : Context),
    s.atRest → s.link.opened = some o → s.link.fifo = e :: rest → o.holding = .unclassified →
    s.engine.inHand = none → s.control.state = .running → s.engine.mode = some .hat →
    o.header.source ≤ 23 → o.header.source ≠ s.control.number → o.header.frames = 49 →
    o.header.run = s.epochs.runNumber → o.header.digest = s.ownDigest →
    s.epochs.exchange = some c → c.epoch = o.header.epoch → s.epochs.counter = o.header.epoch + 1 →
    c.void = none →
    (pairOf c.pairs o.header.source = some .none ∨ pairOf c.pairs o.header.source = some .broken) →
    exec .phaseFirstFrame s = .next { s with
      roster := (s.hear o.header).roster
      epochs := { s.epochs with exchange := some { c with
        pairs := setPair o.header.source (.receiving [0, 0, 0, 0, 0, 0, 0, 0] 0) c.pairs } }
      engine := { s.engine with work := WorkBuffer.empty }
      link := { s.link with opened := some { o with holding := .current } } })
  ∧ ∀ (ps : List PairEntry) (i j : Nat) (st : PairState),
      pairOf (setPair j st ps) i = (if i = j then (pairOf ps i).map (fun _ => st) else pairOf ps i)

/-- PHASE_FIRST_FRAME of a PHASE that is not current: its frames are discarded, the FIRST one at once. One that
fails the header check is not even heard. One that R36 refuses (of another run, of a foreign digest, or heard
outside RUNNING) is heard and counted nowhere; of another run, heard outside BARRIER, it sets RUN_MISSED, with a
PRESENCE when that was clear. In a PERIOD run every other one is unpaired and raises no count. In a HAT run a
duplicate and an early or late one raise their count, and an unpaired one raises none. -/
def Obligations.OtherPhasesAreDiscarded : Prop :=
  ∀ (s : State) (o : OpenRecord) (e : FifoEntry) (c : Context),
    s.atRest → s.link.opened = some o → s.link.fifo = [e] → e.lost = false →
    o.holding = .unclassified → s.engine.inHand = none →
    let discarding : Link := { s.link with
      fifo := [], opened := some { o with taken := 1, holding := .discarded } }
    ((23 < o.header.source ∨ o.header.source = s.control.number ∨ o.header.frames ≠ 49) →
      exec .phaseFirstFrame s = .next (s.withLink discarding))
    ∧ (o.header.source ≤ 23 → o.header.source ≠ s.control.number → o.header.frames = 49 →
      let heard := (s.hear o.header).withLink discarding
      ((s.control.state ≠ .running ∨ o.header.digest ≠ s.ownDigest) →
        o.header.run = s.epochs.runNumber → exec .phaseFirstFrame s = .next heard)
      ∧ (o.header.run ≠ s.epochs.runNumber →
        (s.control.state = .barrier → exec .phaseFirstFrame s = .next heard)
        ∧ ((s.control.state = .awaitSetup ∨ s.control.state = .ready ∨ s.control.state = .running) →
          (Event.runMissed.isIn s.verdicts.events = true →
            exec .phaseFirstFrame s = .next (heard.raise .runMissed))
          ∧ (Event.runMissed.isIn s.verdicts.events = false →
            exec .phaseFirstFrame s = .next (heard.raise .runMissed).presenceMade)))
      ∧ (s.control.state = .running → o.header.run = s.epochs.runNumber → o.header.digest = s.ownDigest →
        (s.engine.mode = some .period → exec .phaseFirstFrame s = .next heard)
        ∧ (s.engine.mode = some .hat →
          (s.epochs.exchange = none →
            exec .phaseFirstFrame s = .next (heard.countLate o.header.source))
          ∧ (s.epochs.exchange = some c → c.epoch + 1 = s.epochs.counter →
            (o.header.epoch ≠ c.epoch →
              exec .phaseFirstFrame s = .next (heard.countLate o.header.source))
            ∧ (o.header.epoch = c.epoch → c.void ≠ none → exec .phaseFirstFrame s = .next heard)
            ∧ (∀ vs, o.header.epoch = c.epoch → c.void = none →
                pairOf c.pairs o.header.source = some (.done vs) →
                exec .phaseFirstFrame s = .next (heard.countDuplicate o.header.source))))))

/-- PAIR_ENGINE_TAKE_FRAME with no hold standing: the current PHASE's frame leaves the FIFO and is in the
engine's hands; the FIRST frame's residuals follow the nine header bytes; a LAST frame closes the record and
names the last winner, which is the model's reading (notes/assumptions/13.md). A MIDDLE or LAST frame that
assembly does not accept breaks the record at the take: its pair entry becomes BROKEN, and the roster counts it.
While the close hold or a running measured solve holds the engine, nothing is taken. -/
def Obligations.EngineTakesTheOldestFrameUnlessHeld : Prop :=
  (∀ (s : State) (o : OpenRecord) (e : FifoEntry) (f : GoodFrame),
    s.atRest → s.link.opened = some o → s.link.fifo = [e] → e.frame = some f → e.lost = false →
    o.holding = .current → s.engine.closeHold = false → s.solver.running = none →
    s.engine.inHand = none →
    let hands (bs : List Byte) (last : Bool) : PairEngine :=
      { s.engine with inHand := some { peer := o.header.source, bytes := bs, last := last } }
    (o.taken = 0 → f.kind = .first → exec .pairEngineTakeFrame s = .next { s with
      engine := hands (f.payload.drop 9) false
      link := { s.link with fifo := [], opened := some { o with taken := 1 } } })
    ∧ (1 ≤ o.taken → f.kind = .middle → f.index = o.taken → o.taken + 1 < o.header.frames →
      f.payload.length = 128 → exec .pairEngineTakeFrame s = .next { s with
        engine := hands f.payload false
        link := { s.link with fifo := [], opened := some { o with taken := o.taken + 1 } } })
    ∧ (1 ≤ o.taken → f.kind = .last → f.index = o.taken → o.taken + 1 = o.header.frames →
      o.header.source ≤ 31 → exec .pairEngineTakeFrame s = .next { s with
        engine := hands f.payload true
        link := { s.link with fifo := [], opened := none, lastWinner := o.header.source } })
    ∧ (∀ c sums next, 1 ≤ o.taken → o.counted = false → s.epochs.exchange = some c →
        pairOf c.pairs o.header.source = some (.receiving sums next) →
        (f.kind = .middle ∧ ¬(f.index = o.taken ∧ o.taken + 1 < o.header.frames ∧ f.payload.length = 128)
          ∨ f.kind = .last ∧ ¬(f.index = o.taken ∧ o.taken + 1 = o.header.frames)) →
        exec .pairEngineTakeFrame s = .next (State.countBroken { s with
          epochs := { s.epochs with exchange := some { c with
            pairs := setPair o.header.source .broken c.pairs } }
          engine := { s.engine with work := WorkBuffer.empty, inHand := none }
          link := { s.link with fifo := [], opened := none } } o.header.source)))
  ∧ (∀ (s : State), s.atRest →
    (s.engine.closeHold = true
      ∨ ∃ r, s.solver.running = some r ∧ r.context.void = none ∧ s.engine.mode = some .hat) →
    exec .pairEngineTakeFrame s = .next s)

/-- PAIR_ENGINE_FRAME_DONE: a frame that is not the LAST advances the sums; a LAST frame of nine bytes makes the
entry DONE with its eight values; one of another length makes it BROKEN and is counted. Three bytes make a
residual, signed, most significant first, with −8,388,608 read as −8,388,607, and the one or two bytes left over
wait for the next frame. -/
def Obligations.FinishedFrameUpdatesItsPairEntry : Prop :=
  (∀ (s : State) (c : Context) (own : OwnStore) (f : FrameInHand) (sums : List Nat) (next : Nat),
    s.atRest → s.engine.inHand = some f → s.epochs.exchange = some c → s.engine.ownStore = some own →
    pairOf c.pairs f.peer = some (.receiving sums next) →
    let read := splitResiduals (s.engine.work.split ++ f.bytes)
    let out := consume own.residuals read.1 next s.engine.work.held sums
    let entry (st : PairState) : Epochs :=
      { s.epochs with exchange := some { c with pairs := setPair f.peer st c.pairs } }
    (f.last = false → exec .pairEngineFrameDone s = .next { s with
      epochs := entry (.receiving out.2.2 out.1)
      engine := { s.engine with work := { held := out.2.1, split := read.2 }, inHand := none } })
    ∧ (f.last = true → f.bytes.length = 9 → exec .pairEngineFrameDone s = .next { s with
      epochs := entry (.done ((List.range 8).map fun k => scaleValue (out.2.2.getD k 0) k))
      engine := { s.engine with work := WorkBuffer.empty, inHand := none } })
    ∧ (f.last = true → f.bytes.length ≠ 9 → exec .pairEngineFrameDone s = .next
      (State.countBroken { s with
        epochs := entry .broken
        engine := { s.engine with work := WorkBuffer.empty, inHand := none } } f.peer)))
  ∧ ∀ bs : List Byte,
      let read := splitResiduals bs
      let whole := bs.length / 3
      read.1.length = whole ∧ read.2 = bs.drop (3 * whole)
      ∧ ∀ i < whole,
        let v : Nat := (bs.getD (3 * i) 0).toNat * 65536 + (bs.getD (3 * i + 1) 0).toNat * 256
          + (bs.getD (3 * i + 2) 0).toNat
        read.1.getD i 0 = max (-8388607) (if v < 8388608 then (v : Int) else (v : Int) - 16777216)

/-! ## Solves -/

/-- SOLVE_BEGIN: the oldest waiting solve runs; a measured one reads who is SUSPECT. -/
def Obligations.SolveBeginsWithTheSuspectReading : Prop :=
  ∀ (s : State) (c : Context) (rest : List Context), s.atRest → s.solver.running = none →
    s.engine.inHand = none → s.solver.waiting = c :: rest →
    let runs (suspects : List Nat) : State := s.withSolver
      { running := some { context := c, suspects := suspects }, waiting := rest }
    (c.void = none → s.engine.mode = some .hat → exec .solveBegin s = .next
      (runs ((s.roster.filter fun e => e.state = .suspect).map (·.peer))))
    ∧ (c.void ≠ none ∨ s.engine.mode = some .period → exec .solveBegin s = .next (runs []))

/-- SOLVE_END of a void solve: NOT_MEASURING leaves no trace; DISTURBED gives NO_RESULT and WANDER gives FAIL, in
the history, as the newest verdict and in the event status, with the accumulators as they were. SOLVE_END of a
period solve: FAIL when it is off frequency; otherwise Q_0 is the variance and Q_1 the square of the peak-to-peak,
read as SEPARATED results are; and the result joins the period run statistics: the count rises by one, the
variance joins its sum, a larger peak-to-peak value takes the place of the one held, and at a count of 65,535
nothing more is added. Either way the VERDICT with these values is offered to its slot, and the oldest waiting
solve begins, which at a pair engine with a frame in hand waits on (notes/assumptions/10.md). The BOUND count of a
void result in a PERIOD run is that of the BOUND set (notes/assumptions/26.md). -/
def Obligations.VoidAndPeriodSolvesGiveTheirVerdicts : Prop :=
  (∀ (s : State) (r : RunningSolve) (h : HeldSetup), s.atRest → s.solver.running = some r →
    s.control.held = some h →
    let next (roster : List RosterEntry) : Solver := match s.solver.waiting, s.engine.inHand with
      | c :: rest, none =>
        { running := some { context := c, suspects :=
            if c.void = none ∧ s.engine.mode ≠ some .period then
              (roster.filter fun e => e.state = .suspect).map (·.peer)
            else [] }
          waiting := rest }
      | waiting, _ => { running := none, waiting := waiting }
    let offered (b : VerdictBody) : Slot × LinkCounts := Slot.offer .verdict
      { header := { kind := 4, source := s.control.number, target := 255, run := s.epochs.runNumber,
                    epoch := r.context.epoch, digest := s.ownDigest,
                    frames := frameCount (9 + (Body.verdict b).bytes.length) }
        body := .verdict b } s.queue.verdict s.link.counts
    (r.context.void = some .notMeasuring →
      exec .solveEnd s = .next (s.withSolver (next s.roster)))
    ∧ (∀ verdict reason,
      (r.context.void = some .disturbed ∧ verdict = .noResult ∧ reason = .disturbed
        ∨ r.context.void = some .wander ∧ verdict = .fail ∧ reason = .wander) →
      ∃ t, exec .solveEnd s = .next t
        ∧ t.solver = next s.roster
        ∧ t.verdicts.newest = some verdict ∧ t.verdicts.lastReported = s.verdicts.lastReported
        ∧ t.verdicts.history = ringJoin s.verdicts.history
            { run := s.epochs.runNumber, epoch := r.context.epoch, runClose := false, verdict := verdict,
              reason := reason, reasonBand := 0, grade := .none, n := 0, y := r.context.y.getD 0,
              bands := [0, 0, 0, 0, 0, 0, 0, 0], figure := 0 }
        ∧ t.verdicts.separated = s.verdicts.separated ∧ t.verdicts.bound = s.verdicts.bound
        ∧ t.verdicts.period = s.verdicts.period
        ∧ t.verdicts.firstFailure = (if verdict = .fail ∧ s.verdicts.firstFailure = none then
            some .wander else s.verdicts.firstFailure)
        ∧ t.verdicts.lastY = (if r.context.y.isSome = true then r.context.y else s.verdicts.lastY)
        ∧ t.verdicts.events = s.verdicts.events ||| (if verdict = .fail then 0x02 else 0)
            ||| (if s.verdicts.lastReported = some verdict then 0 else 0x01)
        ∧ t.verdicts.mask = s.verdicts.mask ∧ t.verdicts.snapshot = s.verdicts.snapshot
        ∧ t.queue.presence = s.queue.presence ∧ t.queue.summary = s.queue.summary
        ∧ t.queue.phase = s.queue.phase ∧ t.queue.history = s.queue.history
        ∧ t.roster = s.roster ∧ t.control = s.control ∧ t.capture = s.capture ∧ t.epochs = s.epochs
        ∧ t.engine = s.engine ∧ t.pending = s.pending ∧ t.hold = s.hold
        ∧ (s.link.mode ≠ .stopped → (t.queue.verdict, t.link.counts) = offered
            { verdict := verdict, reason := reason, reasonBand := 0, grade := .none, n := 0,
              mode := h.setup.mode, belowFloor := 0, runClose := false, events := 0,
              slips := s.capture.slips, y := r.context.y.getD 0, bands := [0, 0, 0, 0, 0, 0, 0, 0],
              figure := 0, separatedCount := s.verdicts.separated.count,
              boundCount := s.verdicts.bound.count }))
    ∧ ∀ v, r.context.void = none → s.engine.mode = some .period → r.context.period = some v →
      let f : Finding := if offFrequency h.setup r.context.y = true then
          { verdict := .fail, reason := .offFrequency, band := 0 }
        else judgeValues h.setup .separated [v.variance, v.peak ^ 2, 0, 0, 0, 0, 0, 0] 0
      ∃ t, exec .solveEnd s = .next t
        ∧ t.solver = next s.roster
        ∧ t.verdicts.newest = some f.verdict ∧ t.verdicts.lastReported = s.verdicts.lastReported
        ∧ t.verdicts.history = ringJoin s.verdicts.history
            { run := s.epochs.runNumber, epoch := r.context.epoch, runClose := false,
              verdict := f.verdict, reason := f.reason, reasonBand := f.band, grade := .referenceBound,
              n := 1, y := r.context.y.getD 0, bands := [v.rms, v.peak, 0, 0, 0, 0, 0, 0], figure := 0 }
        ∧ t.verdicts.period = s.verdicts.period.add v
        ∧ t.verdicts.firstFailure = (if offFrequency h.setup r.context.y = true
            ∧ s.verdicts.firstFailure = none then some .offFrequency else s.verdicts.firstFailure)
        ∧ t.verdicts.lastY = (if r.context.y.isSome = true then r.context.y else s.verdicts.lastY)
        ∧ t.verdicts.separated = s.verdicts.separated ∧ t.verdicts.bound = s.verdicts.bound
        ∧ t.verdicts.events = s.verdicts.events ||| (if f.verdict = .fail then 0x02 else 0)
            ||| (if s.verdicts.lastReported = some f.verdict then 0 else 0x01)
        ∧ t.verdicts.mask = s.verdicts.mask ∧ t.verdicts.snapshot = s.verdicts.snapshot
        ∧ t.queue.presence = s.queue.presence ∧ t.queue.summary = s.queue.summary
        ∧ t.queue.phase = s.queue.phase ∧ t.queue.history = s.queue.history
        ∧ t.roster = s.roster ∧ t.control = s.control ∧ t.capture = s.capture ∧ t.epochs = s.epochs
        ∧ t.engine = s.engine ∧ t.pending = s.pending ∧ t.hold = s.hold
        ∧ (s.link.mode ≠ .stopped → (t.queue.verdict, t.link.counts) = offered
            { verdict := f.verdict, reason := f.reason, reasonBand := f.band, grade := .referenceBound,
              n := 1, mode := h.setup.mode, belowFloor := 0, runClose := false, events := 0,
              slips := s.capture.slips, y := r.context.y.getD 0,
              bands := [v.rms, v.peak, 0, 0, 0, 0, 0, 0], figure := 0,
              separatedCount := s.verdicts.separated.count, boundCount := t.verdicts.period.count }))
  ∧ ∀ (p : PeriodRun) (v : PeriodValues),
      (65535 ≤ p.count → p.add v = p)
      ∧ (p.count < 65535 → p.add v =
          { count := p.count + 1, varianceSum := p.varianceSum + v.variance
            largestPeak := some (match p.largestPeak with
              | none => v.peak
              | some m => if m < v.peak then v.peak else m) })

/-- SOLVE_END of a measured solve: the finding on the solve's values becomes the newest verdict, joins the history
and sets FAIL_SEEN and VERDICT_CHANGED as due; the values are added to the set its grade names: its count rises by
one, each Q_k joins its band's sum, the smallest N and the reference mark follow, and at a count of 65,535 nothing
more is added; the run record keeps a first failure and the last y; the charged and agreed sets reach the roster;
the VERDICT with the solve's values, and the two counts with this result in them, is offered to its slot; and the
oldest waiting solve begins with the roster as it now is, or at a pair engine with a frame in hand waits on
(notes/assumptions/10.md). -/
def Obligations.MeasuredSolveReachesVerdictAndRoster : Prop :=
  (∀ (s : State) (r : RunningSolve) (h : HeldSetup) (f : Finding), s.atRest →
    s.solver.running = some r → s.control.held = some h →
    r.context.void = none → s.engine.mode = some .hat →
    let next (roster : List RosterEntry) : Solver := match s.solver.waiting, s.engine.inHand with
      | c :: rest, none =>
        { running := some { context := c, suspects :=
            if c.void = none then (roster.filter fun e => e.state = .suspect).map (·.peer) else [] }
          waiting := rest }
      | waiting, _ => { running := none, waiting := waiting }
    let offered (b : VerdictBody) : Slot × LinkCounts := Slot.offer .verdict
      { header := { kind := 4, source := s.control.number, target := 255, run := s.epochs.runNumber,
                    epoch := r.context.epoch, digest := s.ownDigest,
                    frames := frameCount (9 + (Body.verdict b).bytes.length) }
        body := .verdict b } s.queue.verdict s.link.counts
    let res := measuredResult s.control.number h.setup.figureMask r.context r.suspects
    f = (if offFrequency h.setup r.context.y then
        { verdict := .fail, reason := .offFrequency, band := 0 }
      else judgeValues h.setup (if res.grade = .separated then .separated else .bound) res.q res.figure) →
    ∃ t, exec .solveEnd s = .next t
      ∧ t.solver = next t.roster
      ∧ t.verdicts.newest = some f.verdict ∧ t.verdicts.lastReported = s.verdicts.lastReported
      ∧ t.verdicts.history = ringJoin s.verdicts.history
          { run := s.epochs.runNumber, epoch := r.context.epoch, runClose := false, verdict := f.verdict,
            reason := f.reason, reasonBand := f.band, grade := res.grade, n := res.n,
            y := r.context.y.getD 0, bands := res.q.map root, figure := root res.figure }
      ∧ t.verdicts.separated =
          (if res.grade = .separated then s.verdicts.separated.add res.q res.n false
           else s.verdicts.separated)
      ∧ t.verdicts.bound =
          (if res.grade = .separated then s.verdicts.bound
           else s.verdicts.bound.add res.q res.n (decide (res.grade = .referenceBound)))
      ∧ t.verdicts.events = s.verdicts.events ||| (if f.verdict = .fail then 0x02 else 0)
          ||| (if s.verdicts.lastReported = some f.verdict then 0 else 0x01)
      ∧ t.roster = (s.rosterSolved (chargedSet s.control.number r.context r.suspects)
          (agreedSet s.control.number r.context)).roster
      ∧ (s.link.mode ≠ .stopped →
          t.queue.verdict.state ≠ .empty
          ∧ (t.queue.verdict, t.link.counts) = offered
              { verdict := f.verdict, reason := f.reason, reasonBand := f.band, grade := res.grade,
                n := res.n, mode := h.setup.mode, belowFloor := res.belowFloor, runClose := false,
                events := 0, slips := s.capture.slips, y := r.context.y.getD 0, bands := res.q.map root,
                figure := root res.figure, separatedCount := t.verdicts.separated.count,
                boundCount := t.verdicts.bound.count }
          ∧ t.queue.presence = s.queue.presence
          ∧ t.queue.summary = s.queue.summary ∧ t.queue.phase = s.queue.phase
          ∧ t.queue.history = s.queue.history)
      ∧ t.verdicts.mask = s.verdicts.mask ∧ t.verdicts.snapshot = s.verdicts.snapshot
      ∧ t.verdicts.period = s.verdicts.period
      ∧ t.verdicts.firstFailure = (if offFrequency h.setup r.context.y = true
          ∧ s.verdicts.firstFailure = none then some .offFrequency else s.verdicts.firstFailure)
      ∧ t.verdicts.lastY = (if r.context.y.isSome = true then r.context.y else s.verdicts.lastY)
      ∧ t.control = s.control ∧ t.capture = s.capture ∧ t.epochs = s.epochs ∧ t.engine = s.engine
      ∧ t.pending = s.pending ∧ t.hold = s.hold)
  ∧ ∀ (a : AccSet) (qs : Values) (n : Nat) (reference : Bool),
      (65535 ≤ a.count → a.add qs n reference = a)
      ∧ (a.count < 65535 →
        let b := a.add qs n reference
        b.count = a.count + 1 ∧ b.sums.length = 8
        ∧ (∀ k < 8, b.sums.getD k 0 = a.sums.getD k 0 + qs.getD k 0)
        ∧ b.smallestN = some (match a.smallestN with
            | none => n
            | some m => if m < n then m else n)
        ∧ (b.referenceMark = true ↔ a.referenceMark = true ∨ reference = true))

/-- SOLVE_END of a measured solve brings its charged and agreed sets to every roster entry, and an entry moves as
R103 and R104 lay down: a charge raises the mismatch count, which stops at 255, and at 3 or more makes the peer
SUSPECT unless it is ALIEN or SUSPECT; an agreement without a charge clears the count and readmits a SUSPECT peer
by its missed count; a peer in neither set is left alone. The sets, over a table with one entry a peer and a
store with one summary a source and one row a peer: a peer agrees where its row for the station equals the
station's DONE entry for it, and is charged where that row differs, or as a candidate (one that agrees and was
not SUSPECT) whose row and another candidate's differ on their pair. The solving set is what the pruning of R133
leaves of the candidates: each that misses no pair with a lower member that stays. Its size gives N and the
grade, and N and one value a pair give the solve's values. A band is marked below floor exactly where N is 3 or
more and its numerator negative; the figure sum takes the bands of the setup's mask; the deviations and the figure
are the roots. -/
def Obligations.SolveChargesAndReadmits : Prop :=
  (∀ (s : State) (r : RunningSolve), s.atRest → s.solver.running = some r → r.context.void = none →
    s.engine.mode = some .hat →
    ∃ t, exec .solveEnd s = .next t ∧ t.roster = s.roster.map fun e =>
      e.solved (chargedSet s.control.number r.context r.suspects) (agreedSet s.control.number r.context))
  ∧ (∀ (e : RosterEntry) (charged agreed : List Nat),
    (e.peer ∈ charged →
      e.solved charged agreed = { e with
        mismatch := min 255 (e.mismatch + 1)
        state := if 3 ≤ min 255 (e.mismatch + 1) ∧ e.state ≠ .alien ∧ e.state ≠ .suspect then .suspect
          else e.state })
    ∧ (e.peer ∉ charged → e.peer ∈ agreed → e.state ≠ .suspect →
        e.solved charged agreed = { e with mismatch := 0 })
    ∧ (e.peer ∉ charged → e.peer ∈ agreed → e.state = .suspect →
        (e.missed = 0 → e.solved charged agreed = { e with mismatch := 0, state := .partner })
        ∧ (1 ≤ e.missed → e.missed ≤ 3 →
            e.solved charged agreed = { e with mismatch := 0, state := .quiet })
        ∧ (4 ≤ e.missed → e.solved charged agreed = { e with mismatch := 0, state := .heard }))
    ∧ (e.peer ∉ charged → e.peer ∉ agreed → e.solved charged agreed = e))
  ∧ ∀ (own : Nat) (c : Context) (suspects : List Nat) (mask : BandMask),
    c.pairs.Pairwise (fun a b => a.peer ≠ b.peer) → c.summaries.Pairwise (fun a b => a.source ≠ b.source) →
    (∀ m ∈ c.summaries, m.entries.Pairwise fun a b => a.peer ≠ b.peer) →
    let mine (j : Nat) (vs : Values) : Prop := { peer := j, state := .done vs } ∈ c.pairs
    let rowOf (j k : Nat) (vs : Values) : Prop :=
      ∃ m ∈ c.summaries, m.source = j ∧ { peer := k, values := vs } ∈ m.entries
    let peer (j : Nat) : Prop := j ≤ 23 ∧ j ≠ own
    let candidate (j : Nat) : Prop := peer j ∧ j ∉ suspects ∧ ∃ vs, mine j vs ∧ rowOf j own vs
    let contradicted (j k : Nat) : Prop := ∃ vs ws, rowOf j k vs ∧ rowOf k j ws ∧ vs ≠ ws
    let missing (j k : Nat) : Prop := contradicted j k ∨ ∀ vs, ¬rowOf j k vs ∧ ¬rowOf k j vs
    let solving := solvingPeers own c suspects
    let res := measuredResult own mask c suspects
    (∀ j, j ∈ agreedSet own c ↔ peer j ∧ ∃ vs, mine j vs ∧ rowOf j own vs)
    ∧ (∀ j, j ∈ chargedSet own c suspects ↔ peer j
        ∧ ((∃ vs ws, mine j vs ∧ rowOf j own ws ∧ vs ≠ ws)
          ∨ ∃ k, k ≠ j ∧ candidate j ∧ candidate k ∧ contradicted j k))
    ∧ solving.Pairwise (fun j k => j < k)
    ∧ (∀ j, j ∈ solving ↔ candidate j ∧ ∀ i ∈ solving, i < j → ¬missing i j)
    ∧ res.n = solving.length + 1
    ∧ res.grade = (if 3 ≤ res.n then .separated else if res.n = 2 then .pairBound else .referenceBound)
    ∧ (res.n < 3 → res.belowFloor = 0)
    ∧ res.q.length = 8 ∧ res.bands = res.q.map root ∧ res.j = root res.figure
    ∧ res.figure = figureSum mask res.q
    ∧ (∀ qs : Values, figureSum mask qs =
        ((List.range 8).map fun k => if mask.getLsbD k = true then qs.getD k 0 else 0).sum)
    ∧ ∀ (ours : Nat → Values) (theirs : Nat → Nat → Values),
        (∀ j ∈ solving, mine j (ours j)) →
        (∀ j ∈ solving, ∀ k ∈ solving, j < k → rowOf j k (theirs j k) ∨ rowOf k j (theirs j k)) →
        ∀ k < 8,
          let a := (solving.map fun j => valueAt (ours j) k).sum
          let p := a + ((pairsOf solving).map fun x => valueAt (theirs x.1 x.2) k).sum
          (3 ≤ res.n → valueAt res.q k = separated res.n a p)
          ∧ (res.belowFloor.getLsbD k = true ↔ 3 ≤ res.n ∧ (res.n - 1) * a < p)
          ∧ (∀ j, solving = [j] → valueAt res.q k = valueAt (ours j) k)
          ∧ (∀ ws, solving = [] → c.selfValues = some ws → valueAt res.q k = valueAt ws k)

/-- Where every pair value is the sum of its two members' own values, the separation finds the station's own
value exactly, whatever the peers' are. In every case Q is the numerator over (N − 1)(N − 2) to the nearest
whole number, halves going up, and 0 for a numerator that is not positive. -/
def Obligations.SeparationFindsTheOwnValueAndRounds : Prop :=
  (∀ (own : Nat) (peers : List Nat), 2 ≤ peers.length →
    let a := (peers.map fun q => own + q).sum
    let p := a + ((pairsOf peers).map fun x => x.1 + x.2).sum
    separated (peers.length + 1) a p = own ∧ ¬numerator (peers.length + 1) a p < 0)
  ∧ (∀ n a p : Nat, 3 ≤ n →
    (numerator n a p ≤ 0 → separated n a p = 0)
    ∧ (0 < numerator n a p →
        let d : Int := (n - 1 : Int) * (n - 2)
        2 * numerator n a p < (2 * separated n a p + 1) * d
        ∧ (2 * separated n a p - 1) * d ≤ 2 * numerator n a p))

/-- The root is the largest whole number whose square does not exceed the value. -/
def Obligations.RootIsTheFlooredRoot : Prop :=
  ∀ n : Nat, root n ^ 2 ≤ n ∧ n < (root n + 1) ^ 2

/-! ## Verdicts -/

/-- A value against its limit (R142): bands by Q_k against L_k², the figure by ΣQ against the square of the
figure limit; a limit of 0 is no limit. -/
def Obligations.ValuesAreJudgedAgainstSquaredLimits : Prop :=
  ∀ (u : Setup) (qs : Values) (figure : Nat),
    (∀ value limit : Nat,
      (standing value limit = .exceeded ↔ limit ≠ 0 ∧ limit ^ 2 < value)
      ∧ (standing value limit = .marginal ↔
          limit ≠ 0 ∧ ¬limit ^ 2 < value ∧ 49 * limit ^ 2 < 64 * value)
      ∧ (standing value limit = .within ↔
          limit = 0 ∨ ¬limit ^ 2 < value ∧ ¬49 * limit ^ 2 < 64 * value)
      ∧ standing 0 limit = .within)
    ∧ ∀ w : Standing,
        (firstCause u qs figure w = none ↔
          (∀ k < 8, standing (valueAt qs k) (valueAt u.limits k) ≠ w)
          ∧ standing figure u.figureLimit ≠ w)

/-- A result is off frequency where the tolerance is not 0 and |y| exceeds it (R143 step 2). The reading of
outcomes (R143 step 3, R144): exceeded is FAIL for a separated reading and UNRESOLVED for a bound, then marginal,
then PASS; the cause is the lowest band with the deciding outcome, then the figure. -/
def Obligations.OutcomesGiveTheVerdict : Prop :=
  (∀ (u : Setup) (qs : Values) (figure : Nat) (reading : Reading),
    let f := judgeValues u reading qs figure
    let has (w : Standing) := (∃ k < 8, standing (valueAt qs k) (valueAt u.limits k) = w)
      ∨ standing figure u.figureLimit = w
    (has .exceeded → f.verdict = (match reading with | .separated => .fail | .bound => .unresolved))
    ∧ (¬has .exceeded → has .marginal → f.verdict = .marginal)
    ∧ (¬has .exceeded → ¬has .marginal → f = { verdict := .pass, reason := .none, band := 0 })
    ∧ ∀ w, (w = .exceeded ∨ w = .marginal ∧ ¬has .exceeded) →
        (∀ k < 8, standing (valueAt qs k) (valueAt u.limits k) = w →
          (∀ j < k, standing (valueAt qs j) (valueAt u.limits j) ≠ w) → f.reason = .band ∧ f.band = k)
        ∧ ((∀ k < 8, standing (valueAt qs k) (valueAt u.limits k) ≠ w) →
          standing figure u.figureLimit = w → f.reason = .figure ∧ f.band = 0))
  ∧ ∀ (u : Setup) (y : Option Int), offFrequency u y = true ↔
      u.tolerance ≠ 0 ∧ ∃ v, y = some v ∧ (v < -(u.tolerance : Int) ∨ (u.tolerance : Int) < v)

/-- A new entry joins the history ring as the newest: an entry of the same run and epoch is removed first,
then the oldest of eight; the order of the others stays. -/
def Obligations.HistoryRingKeepsTheNewestEight : Prop :=
  ∀ (ring : List HistoryEntry) (e : HistoryEntry), ring.length ≤ 8 →
    let others := ring.filter fun x => ¬(x.run = e.run ∧ x.epoch = e.epoch)
    ringJoin ring e = others.drop (others.length - 7) ++ [e]
    ∧ (ringJoin ring e).length ≤ 8

/-- The run-close verdict and the set it reports. In a HAT run: the first failure, else the SEPARATED averages,
else the BOUND averages, else NO_RESULT by the DUT state at the run's end. In a PERIOD run the period run
statistics stand in place of both sets: the average variance and the square of the largest peak-to-peak value,
read as SEPARATED results are. The reported set is chosen by the counts whatever decided the verdict. -/
def Obligations.RunCloseJudgesTheAverages : Prop :=
  ∀ (v : VerdictUnit) (u : Setup),
    let average (a : AccSet) : Values := (List.range 8).map fun k => a.sums.getD k 0 / a.count
    let set (reading : Reading) (grade : Grade) (a : AccSet) : Reported :=
      { reading := reading, grade := grade, n := a.smallestN.getD 0, q := average a
        figure := figureSum u.figureMask (average a), bands := (average a).map root
        j := root (figureSum u.figureMask (average a)) }
    let tooLittle := Finding.mk .noResult
      (if v.dutAtEnd = some .absent ∨ v.dutAtEnd = some .wrongFrequency then .dutLost
       else .tooFewEpochs) 0
    (∀ r inPeriod, v.firstFailure = some r →
      v.runClose u inPeriod = { verdict := .fail, reason := r, band := 0 })
    ∧ (v.firstFailure = none → u.minEpochs ≤ v.separated.count →
      v.runClose u false = judgeValues u .separated (average v.separated)
        (figureSum u.figureMask (average v.separated)))
    ∧ (v.firstFailure = none → v.separated.count < u.minEpochs → u.minEpochs ≤ v.bound.count →
      v.runClose u false = judgeValues u .bound (average v.bound)
        (figureSum u.figureMask (average v.bound)))
    ∧ (v.firstFailure = none → v.separated.count < u.minEpochs → v.bound.count < u.minEpochs →
      v.runClose u false = tooLittle)
    ∧ (u.minEpochs ≤ v.separated.count →
      v.reportedSet u false = some (set .separated .separated v.separated))
    ∧ (v.separated.count < u.minEpochs → u.minEpochs ≤ v.bound.count →
      v.reportedSet u false = some (set .bound
        (if v.bound.referenceMark = true then .referenceBound else .pairBound) v.bound))
    ∧ (v.separated.count < u.minEpochs → v.bound.count < u.minEpochs → v.reportedSet u false = none)
    ∧ (u.minEpochs ≤ v.period.count →
      let variance := v.period.varianceSum / v.period.count
      let peak := v.period.largestPeak.getD 0
      let qs : Values := [variance, peak ^ 2, 0, 0, 0, 0, 0, 0]
      (v.firstFailure = none → v.runClose u true = judgeValues u .separated qs 0)
      ∧ v.reportedSet u true = some
          { reading := .separated, grade := .referenceBound, n := 1, q := qs, figure := 0
            bands := [root variance, peak, 0, 0, 0, 0, 0, 0], j := 0 })
    ∧ (v.period.count < u.minEpochs →
      (v.firstFailure = none → v.runClose u true = tooLittle) ∧ v.reportedSet u true = none)

/-- ATTN is asserted exactly while the event status and the attention mask have an event in common (R157). -/
def Obligations.AttnIsTheOverlapOfEventsAndMask : Prop :=
  ∀ s : State, s.attn = true ↔
    ∃ e : Event, e.isIn s.verdicts.events = true ∧ e.isIn s.verdicts.mask = true

/-- The completion of a PRESENCE or VERDICT clears the events of its snapshot that were not renewed, and sets
VERDICT_CHANGED again while the newest verdict differs from the last reported one (R146, R155). That it does so
where the newest verdict is none, after a START, is the model's reading (notes/assumptions/25.md). A cause sets
its event and no other, and its renewed mark exactly while a snapshot is in flight (R154, R155). -/
def Obligations.CompletionClearsTheUnrenewedSnapshot : Prop :=
  (∀ (v : VerdictUnit) (sent : Events) (reported : Option Verdict), v.snapshot = some sent →
    let t := v.complete reported
    let last := if reported.isSome then reported else v.lastReported
    t.snapshot = none ∧ t.renewed = 0 ∧ t.lastReported = last ∧ t.newest = v.newest
    ∧ ∀ e : Event, e.isIn t.events = true ↔
        (e.isIn v.events = true ∧ (e.isIn sent = false ∨ e.isIn v.renewed = true))
        ∨ (e = .verdictChanged ∧ v.newest ≠ last))
  ∧ ∀ (s : State) (e : Event),
      let t := s.verdicts.raise e
      s.raise e = { s with verdicts := t }
      ∧ t = { s.verdicts with events := t.events, renewed := t.renewed }
      ∧ (∀ x : Event, x.isIn t.events = true ↔ x = e ∨ x.isIn s.verdicts.events = true)
      ∧ (s.verdicts.snapshot = none → t.renewed = s.verdicts.renewed)
      ∧ (s.verdicts.snapshot ≠ none →
        ∀ x : Event, x.isIn t.renewed = true ↔ x = e ∨ x.isIn s.verdicts.renewed = true)

/-! ## The outgoing queue and the link -/

/-- A record offered to its slot (R73, R74): it enters an EMPTY slot; a PRESENCE replaces an unsent one; a PHASE
replaces an unsent one, which is counted as withdrawn; an unsent VERDICT gives way and is counted unless it is
flagged run-close, when the one offered is lost and counted; behind a record ON_LINK it becomes the successor,
settled in the same way against one already there. A stopped link takes no offer. An offer that leaves its slot
UNSENT in IDLE_WAIT, at a quiet count of 64 or more and with neither WAIT nor CLEAR asserted, begins the
station's field (R65), with the key of the last winner as it then stands (notes/assumptions/35.md); any other
offer changes its slot and the counts alone. -/
def Obligations.OfferedRecordFindsItsPlace : Prop :=
  (∀ (s : State) (k : SlotKind) (r : Record),
    (s.link.mode = .stopped → s.offer k r = s)
    ∧ (s.link.mode ≠ .stopped →
      let settled := Slot.offer k r (s.queue.get k) s.link.counts
      let placed (l : Link) : State := { s with
        queue := s.queue.set k settled.1, link := { l with counts := settled.2 } }
      (s.link.mode = .idleWait → 64 ≤ s.link.quiet → s.drivesWait = false → s.link.clearSeen = false →
        (∀ u past ended, (s.queue.get k).state ≠ .onLink u past ended) →
        s.offer k r = placed { s.link with
          mode := .contending (arbitrationField s.control.number s.link.lastWinner), quiet := 0 })
      ∧ (s.link.mode ≠ .idleWait ∨ s.link.quiet < 64 ∨ s.drivesWait = true ∨ s.link.clearSeen = true →
        s.offer k r = placed s.link)))
  ∧ ∀ (k : SlotKind) (r u w : Record) (sl : Slot) (c : LinkCounts) (past ended : Bool),
    (sl.state = .empty → Slot.offer k r sl c = ({ sl with state := .unsent r }, c))
    ∧ (sl.state = .onLink w past ended → sl.successor = none →
        Slot.offer k r sl c = ({ sl with successor := some r }, c))
    ∧ (sl.state = .unsent u →
        Slot.offer .presence r sl c = ({ sl with state := .unsent r }, c)
        ∧ Slot.offer .phase r sl c = ({ sl with state := .unsent r },
            { c with phaseWithdrawn := min 65535 (c.phaseWithdrawn + 1) })
        ∧ Slot.offer .verdict r sl c = ({ sl with state := .unsent (if u.isRunClose then u else r) },
            { c with verdictSuperseded := min 65535 (c.verdictSuperseded + 1) }))
    ∧ (sl.state = .onLink w past ended → sl.successor = some u →
        Slot.offer .presence r sl c = ({ sl with successor := some r }, c)
        ∧ Slot.offer .phase r sl c = ({ sl with successor := some r },
            { c with phaseWithdrawn := min 65535 (c.phaseWithdrawn + 1) })
        ∧ Slot.offer .verdict r sl c = ({ sl with successor := some (if u.isRunClose then u else r) },
            { c with verdictSuperseded := min 65535 (c.verdictSuperseded + 1) }))

/-- The key of a contender is (n − w − 1) mod 32 and the field's value is key × 32 + n; so the number after
the last winner has key 0, the last winner has key 31, and no two numbers of one view share a key (R67). -/
def Obligations.ArbitrationFavoursTheNextNumber : Prop :=
  ∀ n w : Nat, n ≤ 31 → w ≤ 31 →
    ((arbitrationKey n w : Nat) : Int) = ((n : Int) - w - 1) % 32
    ∧ (arbitrationField n w).toNat = arbitrationKey n w * 32 + n
    ∧ (n = (w + 1) % 32 → arbitrationKey n w = 0) ∧ arbitrationKey w w = 31
    ∧ ∀ m ≤ 31, arbitrationKey m w = arbitrationKey n w → m = n

/-- IDLE_GAP_REACHED and FIELD_BEGIN_SEEN: with an UNSENT slot the station begins its field and contends;
without one it stands in IDLE_WAIT at a quiet count of 64, or listens to the field. -/
def Obligations.GapAndFieldBeginContention : Prop :=
  ∀ s : State, s.atRest →
    (s.link.mode = .idleWait ∨ s.link.mode = .listening .between
      ∨ s.link.mode = .listening .fieldPending) →
    s.drivesWait = false → s.link.clearSeen = false →
    let contends : State := s.withLink { s.link with
      mode := .contending (arbitrationField s.control.number s.link.lastWinner), quiet := 0 }
    (s.queue.best ≠ none →
      exec .idleGapReached s = .next contends ∧ exec .fieldBeginSeen s = .next contends)
    ∧ (s.queue.best = none →
      exec .idleGapReached s = .next (s.withLink { s.link with mode := .idleWait, quiet := 64 })
      ∧ exec .fieldBeginSeen s = .next
          (s.withLink { s.link with mode := .listening .fieldPending, quiet := 0 }))

/-- ARBITRATION_LOST and ARBITRATION_WON: the loser listens; the winner puts its UNSENT slot of highest
priority ON_LINK, with a fresh snapshot of the event status in a PRESENCE or VERDICT, and drives its first
frame on LINK with OPEN asserted, or goes idle with none left. The order of the kinds is PRESENCE, SUMMARY, PHASE,
VERDICT, HISTORY, and no kind before the one sent is UNSENT. That the winner drives its first frame also where it
asserts WAIT itself is the model's choice (notes/assumptions/38.md). The snapshot is written into the event-status
byte of a PRESENCE or VERDICT, and no other byte of a record changes (R76). -/
def Obligations.ArbitrationEndsInSendingOrListening : Prop :=
  (∀ (s : State) (bits : BitVec 10), s.atRest → s.link.mode = .contending bits →
    let rank : SlotKind → Nat := fun
      | .presence => 1
      | .summary => 2
      | .phase => 3
      | .verdict => 4
      | .history => 5
    exec .arbitrationLost s = .next
      (s.withLink { s.link with mode := .listening .fieldPending, quiet := 0 })
    ∧ (s.queue.best = none → exec .arbitrationWon s = .next
        (s.withLink { s.link with mode := .idleWait, quiet := 0 }))
    ∧ (s.queue.best = none ↔ ∀ k r, (s.queue.get k).state ≠ .unsent r)
    ∧ (∀ k, s.queue.best = some k ↔ (∃ r, (s.queue.get k).state = .unsent r)
        ∧ ∀ j r, rank j < rank k → (s.queue.get j).state ≠ .unsent r)
    ∧ ∀ k r, s.queue.best = some k → (s.queue.get k).state = .unsent r →
        let sent := r.withEvents s.verdicts.events
        let won : State := { s with
          queue := s.queue.set k { s.queue.get k with
            state := .onLink sent false false }
          verdicts := if k = .presence ∨ k = .verdict then
              { s.verdicts with snapshot := some s.verdicts.events, renewed := 0 }
            else s.verdicts
          link := { s.link with mode := .sending k 0 .inFrame, quiet := 0 } }
        exec .arbitrationWon s = .next won ∧ won.drivesLink = .frame (sent.frame 0) ∧ won.drivesOpen = true)
  ∧ ∀ (r : Record) (es : Events),
      let sent := r.withEvents es
      (∀ b, r.body = .presence b → sent = { r with body := .presence { b with events := es } }
        ∧ sent.bytes.getD 13 0 = es.setWidth 8
        ∧ ∀ n, n ≠ 13 → sent.bytes.getD n 0 = r.bytes.getD n 0)
      ∧ (∀ b, r.body = .verdict b → sent = { r with body := .verdict { b with events := es } }
        ∧ sent.bytes.getD 17 0 = es.setWidth 8
        ∧ ∀ n, n ≠ 17 → sent.bytes.getD n 0 = r.bytes.getD n 0)
      ∧ (r.body.kind ≠ .presence → r.body.kind ≠ .verdict → sent = r)

/-- END_OF_A_FRAME, OPEN_RELEASED and FRAME_GAP_REACHED inside a record: the sender waits for the take, then
for the gap, and begins its next frame; a lone node's frame is taken at its end. In a frame it drives that frame
of its record on LINK and asserts OPEN, and between frames it drives neither. -/
def Obligations.SenderGoesFrameByFrame : Prop :=
  ∀ (s : State) (k : SlotKind) (i : Nat), s.atRest →
    let at_ (p : SendPhase) (j : Nat) : State :=
      s.withLink { s.link with mode := .sending k j p, quiet := 0 }
    (s.link.mode = .sending k i .inFrame →
      exec (.endOfAFrame true) s = .next (at_ .awaitingTake i)
      ∧ (i + 1 < s.framesOf k → exec (.endOfAFrame false) s = .next (at_ .awaitingGap i)))
    ∧ (s.link.mode = .sending k i .awaitingTake → i + 1 < s.framesOf k →
      exec .openReleased s = .next (at_ .awaitingGap i))
    ∧ (s.link.mode = .sending k i .awaitingGap → s.drivesWait = false → s.link.clearSeen = false →
      exec .frameGapReached s = .next (at_ .inFrame (i + 1)))
    ∧ ∀ r past ended, (s.queue.get k).state = .onLink r past ended → ∀ j,
      (at_ .inFrame j).drivesLink = .frame (r.frame j) ∧ (at_ .inFrame j).drivesOpen = true
      ∧ ∀ p, p ≠ .inFrame → (at_ p j).drivesLink = .released ∧ (at_ p j).drivesOpen = false

/-- OPEN_RELEASED after the last frame: the record completes at the sender: its own number becomes the last
winner, the slot is free or takes its successor, the CLEAR run and the fault flag end, the verdict unit closes
the snapshot of a PRESENCE or VERDICT, and the station is in IDLE_WAIT. An epoch VERDICT reports its verdict; a
run-close VERDICT and every other kind report none (R146). -/
def Obligations.DeliveredRecordFreesItsSlot : Prop :=
  (∀ (s : State) (k : SlotKind) (i : Nat) (r : Record) (past ended : Bool) (next : Option Record),
    s.atRest → s.queue.get k = { state := .onLink r past ended, successor := next } →
    r.header.frames ≤ i + 1 →
    let left : SlotState := match next with
      | none => .empty
      | some q => .unsent q
    let done : State := { s with
      queue := s.queue.set k { state := left, successor := none }
      verdicts := if k = .presence ∨ k = .verdict then s.verdicts.complete r.reported else s.verdicts
      link := { s.link with
        mode := .idleWait, quiet := 0, lastWinner := s.control.number, clearRun := 0,
        faultFlag := false } }
    (s.link.mode = .sending k i .awaitingTake → exec .openReleased s = .next done)
    ∧ (s.link.mode = .sending k i .inFrame → exec (.endOfAFrame false) s = .next done))
  ∧ ∀ r : Record,
      (r.isRunClose = true ↔ ∃ b, r.body = .verdict b ∧ b.runClose = true)
      ∧ (∀ b, r.body = .verdict b → b.runClose = false → r.reported = some b.verdict)
      ∧ (∀ b, r.body = .verdict b → b.runClose = true → r.reported = none)
      ∧ (r.body.kind ≠ .verdict → r.reported = none)

/-- STALL_LIMIT and READBACK_MISMATCH: the sender ceases and asserts CLEAR, the CLEAR is counted against the kind
ON_LINK, whose count alone rises by one and stops at 65,535, and toward the CLEAR run, and the eighth of a run
sets the fault flag and LINK_FAULT once. That the record stays ON_LINK at the cause, and is aborted when
CLEAR_SEEN follows, is the model's reading (notes/assumptions/19.md). -/
def Obligations.StallAndMismatchIssueAClear : Prop :=
  (∀ (s : State) (k : SlotKind) (i : Nat), s.atRest → s.link.clearSeen = false →
    let run := min 8 (s.link.clearRun + 1)
    let issued : Link := { s.link with
      mode := .sending k i .ceased, quiet := 0, clearPulse := true, clearRun := run,
      counts := s.link.counts.clear k }
    ∀ c, (c = .stallLimit ∧ s.link.mode = .sending k i .awaitingTake
        ∨ c = .readbackMismatch ∧ s.link.mode = .sending k i .inFrame) →
      (run = 8 → s.link.faultFlag = false →
        exec c s = .next ((s.withLink { issued with faultFlag := true }).raise .linkFault))
      ∧ (run < 8 ∨ s.link.faultFlag = true → exec c s = .next (s.withLink issued)))
  ∧ ∀ c : LinkCounts,
      c.clear .presence = { c with clearPresence := min 65535 (c.clearPresence + 1) }
      ∧ c.clear .summary = { c with clearSummary := min 65535 (c.clearSummary + 1) }
      ∧ c.clear .phase = { c with clearPhase := min 65535 (c.clearPhase + 1) }
      ∧ c.clear .verdict = { c with clearVerdict := min 65535 (c.clearVerdict + 1) }
      ∧ c.clear .history = { c with clearHistory := min 65535 (c.clearHistory + 1) }

/-- CLEAR_SEEN. With no record open in assembly: FIFO emptied, last winner 31, IDLE_WAIT; the record on the link
returns to its slot UNSENT, or is withdrawn and counted if its deadline has passed, or is dropped uncounted if
its run has ended, and its snapshot is discarded; its successor then takes the slot, a PRESENCE in place of the
aborted one, a VERDICT by the rule of R73. A listener loses nothing but what it was receiving: a record open in
assembly that is not a current PHASE is broken, and counted where it was not. That a record both past its
deadline and of an ended run is dropped uncounted is the model's reading (notes/assumptions/20.md). With a
current PHASE open: the record is broken, its pair entry becomes BROKEN, and the peer's broken-record count is
raised. At a sender with a record open, the break comes beside the abort: what CLEAR leaves is what it leaves with
the record broken already. -/
def Obligations.ClearAbortsAndBreaks : Prop :=
  (∀ s : State, s.atRest → s.link.clearSeen = false → s.link.opened = none →
    let cleared : Link := { s.link with
      mode := .idleWait, quiet := 0, fifo := [], lastWinner := 31, clearSeen := true }
    ((s.link.mode = .idleWait ∨ (∃ b, s.link.mode = .contending b) ∨ (∃ p, s.link.mode = .listening p)) →
      exec .clearSeen s = .next (s.withLink cleared))
    ∧ ∀ k i p r, s.link.mode = .sending k i p →
      let freed (st : SlotState) (l : Link) : State := { s with
        queue := s.queue.set k { state := st, successor := none }
        verdicts := if k = .presence ∨ k = .verdict then
            { s.verdicts with snapshot := none, renewed := 0 } else s.verdicts
        link := l }
      (s.queue.get k = { state := .onLink r false false, successor := none } →
        exec .clearSeen s = .next (freed (.unsent r) cleared))
      ∧ (s.queue.get k = { state := .onLink r true false, successor := none } →
        exec .clearSeen s = .next
          (freed .empty { cleared with counts := s.link.counts.withdraw k }))
      ∧ (∀ past, s.queue.get k = { state := .onLink r past true, successor := none } →
        exec .clearSeen s = .next (freed .empty cleared))
      ∧ (∀ q, s.queue.get k = { state := .onLink r false false, successor := some q } →
        (k = .presence → exec .clearSeen s = .next (freed (.unsent q) cleared))
        ∧ (k = .verdict → exec .clearSeen s = .next
          (freed (.unsent (if r.isRunClose then r else q)) { cleared with counts := { s.link.counts with
            verdictSuperseded := min 65535 (s.link.counts.verdictSuperseded + 1) } })))
      ∧ (∀ q, s.queue.get k = { state := .onLink r true false, successor := some q } →
        exec .clearSeen s = .next
          (freed (.unsent q) { cleared with counts := s.link.counts.withdraw k }))
      ∧ (∀ q past, s.queue.get k = { state := .onLink r past true, successor := some q } →
        exec .clearSeen s = .next (freed (.unsent q) cleared)))
  ∧ (∀ (s : State) (o : OpenRecord), s.atRest → s.link.clearSeen = false → s.link.opened = some o →
    o.holding ≠ .current →
    (s.link.mode = .idleWait ∨ (∃ b, s.link.mode = .contending b) ∨ (∃ p, s.link.mode = .listening p)) →
    let cleared : State := s.withLink { s.link with
      mode := .idleWait, quiet := 0, fifo := [], opened := none, lastWinner := 31, clearSeen := true }
    (o.counted = true → exec .clearSeen s = .next cleared)
    ∧ (o.counted = false → exec .clearSeen s = .next (cleared.countBroken o.header.source)))
  ∧ (∀ (s : State) (o : OpenRecord) (c : Context) (sums : List Nat) (next : Nat),
    s.atRest → s.link.clearSeen = false →
    (s.link.mode = .idleWait ∨ (∃ b, s.link.mode = .contending b) ∨ (∃ p, s.link.mode = .listening p)) →
    s.link.opened = some o → o.holding = .current → o.counted = false →
    s.epochs.exchange = some c → pairOf c.pairs o.header.source = some (.receiving sums next) →
    exec .clearSeen s = .next (State.countBroken { s with
      epochs := { s.epochs with exchange := some { c with
        pairs := setPair o.header.source .broken c.pairs } }
      engine := { s.engine with work := WorkBuffer.empty, inHand := none }
      link := { s.link with
        mode := .idleWait, quiet := 0, fifo := [], opened := none, lastWinner := 31,
        clearSeen := true } } o.header.source))
  ∧ (∀ (s : State) (o : OpenRecord), s.atRest → s.link.clearSeen = false → s.link.opened = some o →
    (∃ k i p, s.link.mode = .sending k i p) →
    let closed := s.withLink { s.link with opened := none }
    (o.holding ≠ .current →
      (o.counted = true → exec .clearSeen s = exec .clearSeen closed)
      ∧ (o.counted = false → exec .clearSeen s = exec .clearSeen (closed.countBroken o.header.source)))
    ∧ (∀ c sums next, o.holding = .current → o.counted = false → s.epochs.exchange = some c →
      pairOf c.pairs o.header.source = some (.receiving sums next) →
      exec .clearSeen s = exec .clearSeen (State.countBroken { closed with
        epochs := { s.epochs with exchange := some { c with
          pairs := setPair o.header.source .broken c.pairs } }
        engine := { s.engine with work := WorkBuffer.empty, inHand := none } } o.header.source)))

/-- CLEAR_PULSE_END releases the station's own CLEAR; CLEAR_RELEASED starts the quiet count, and WAIT is then
asserted again exactly where a barrier claim is held. WAIT_HOLD_LIMIT at a station that asserts WAIT: the FIFO is
emptied, the barrier claim ends, and WAIT is released; a record open in assembly is broken, which the roster
counts where it has not counted it, and a current PHASE's pair entry becomes BROKEN. -/
def Obligations.ClearEndAndHoldLimitSettleWait : Prop :=
  (∀ s : State, s.atRest →
    exec .clearPulseEnd s = .next (s.withLink { s.link with clearPulse := false })
    ∧ (s.link.clearSeen = true → s.drivesWait = false)
    ∧ (s.link.clearSeen = true → s.link.clearPulse = false → s.link.fifo = [] →
      s.link.mode ≠ .stopped →
      ∃ t, exec .clearReleased s = .next t
        ∧ t = s.withLink { s.link with clearSeen := false, quiet := 0 }
        ∧ t.drivesWait = s.control.barrier.claim))
  ∧ (∀ s : State, s.atRest → s.drivesWait = true →
    let emptied : State := (s.withLink { s.link with fifo := [], opened := none }).withControl
      { s.control with barrier := { s.control.barrier with claim := false } }
    (s.link.opened = none →
      ∃ t, exec .waitHoldLimit s = .next t
        ∧ t = (s.withLink { s.link with fifo := [] }).withControl
            { s.control with barrier := { s.control.barrier with claim := false } }
        ∧ t.drivesWait = false)
    ∧ ∀ o, s.link.opened = some o →
      (o.holding ≠ .current →
        (o.counted = true → exec .waitHoldLimit s = .next emptied)
        ∧ (o.counted = false →
          exec .waitHoldLimit s = .next (emptied.countBroken o.header.source)))
      ∧ (∀ c sums next, o.holding = .current → o.counted = false → s.epochs.exchange = some c →
          pairOf c.pairs o.header.source = some (.receiving sums next) →
          exec .waitHoldLimit s = .next (State.countBroken { emptied with
            epochs := { s.epochs with exchange := some { c with
              pairs := setPair o.header.source .broken c.pairs } }
            engine := { s.engine with work := WorkBuffer.empty, inHand := none } } o.header.source)))

/-- FRAME_START_BIT (R47): a listener takes the bit after its field, or a dominant bit at a quiet count of
16 … 63, for a frame's start bit and asserts OPEN; a count below 16 restarts; in IDLE_WAIT every count below
64 restarts. A WAIT that another node asserts, which FRAME_START_BIT carries by the model's choice
(notes/assumptions/22.md), restarts the count, and no record offered then starts a field. -/
def Obligations.StartBitIsToldByTheQuietCount : Prop :=
  ∀ (s : State) (q : Nat), s.atRest →
    let opens : State := s.withLink { s.link with mode := .listening .inFrame, quiet := 0 }
    let restarts : State := s.withLink { s.link with quiet := 0 }
    opens.drivesOpen = true
    ∧ (s.link.mode = .listening .fieldPending → exec (.frameStartBit .afterField) s = .next opens)
    ∧ ((s.link.mode = .listening .fieldPending ∨ s.link.mode = .listening .between) →
        (16 ≤ q → q ≤ 63 → exec (.frameStartBit (.atQuiet q)) s = .next opens)
        ∧ (q ≤ 15 → exec (.frameStartBit (.atQuiet q)) s = .next restarts))
    ∧ (s.link.mode = .idleWait → q ≤ 63 → exec (.frameStartBit (.atQuiet q)) s = .next restarts)
    ∧ (s.link.mode ≠ .stopped → exec (.frameStartBit .waitAsserted) s = .next restarts)
    ∧ ∀ k r, (restarts.offer k r).link.mode = s.link.mode

/-- FRAME_RECEIVED at a listener with an empty FIFO. With nothing open in assembly: a bad frame changes only the
link state; a good ONLY frame completes its record: handed on with its source as last winner, once the pair
engine has finished a frame it had in hand (notes/assumptions/12.md), or reported broken when malformed, or a
number conflict when it carries the station's own number; a FIRST frame opens its record, and that of a PHASE
waits for its classification; an orphan is discarded. With a record open: a MIDDLE frame in sequence joins the
assembly buffer, or is discarded with an abandoned or unwanted PHASE; a LAST frame in sequence completes the
record, with the checks of its whole bytes, or the length check of the discarded PHASE; a frame of a current
PHASE waits for the engine; a bad frame, one out of sequence, and one beyond 11 buffered frames break the record;
an ONLY or FIRST frame breaks it and then acts as with nothing open. An ONLY or FIRST frame that is not accepted
is discarded. A source above 31 leaves the last winner. That a bad frame breaks a current PHASE at once, also
while the engine is held, and that a frame is checked, taken and assembled in one step, is the model's reading
(notes/assumptions/15.md); that a completed record waits in the model's hand-on is its choice
(notes/assumptions/8.md). The take itself (R49): with a free place the frame joins as the newest entry; a full
FIFO keeps its entries and marks the newest as followed by a lost frame; the fourth entry makes the station
assert WAIT. -/
def Obligations.ReceivedFrameIsTakenAndChecked : Prop :=
  (∀ (s : State) (f : Frame), s.atRest → f.ok = true → s.link.mode = .listening .inFrame →
    s.link.fifo = [] → s.link.opened = none → s.link.handOn = none →
    let h := Header.ofBytes f.payload
    let w := if h.source ≤ 31 then h.source else s.link.lastWinner
    let idle (t : State) (l : Link) : State := t.withLink { l with mode := .idleWait, quiet := 0 }
    (frameGood f = false → exec (.frameReceived f) s = .next
      (s.withLink { s.link with mode := .listening .between, quiet := 0 }))
    ∧ (frameGood f = true → frameKindOf f = .only → frameIndexOf f = 0 → 9 ≤ f.payload.length →
        h.frames = 1 →
      (h.source = s.control.number → exec (.frameReceived f) s = .next
        (idle s.finishFrame { s.link with handOn := some .conflict }))
      ∧ (h.source ≠ s.control.number →
        (∀ r, checkRecord f.payload = .passed r → exec (.frameReceived f) s = .next
          (idle s.finishFrame { s.link with lastWinner := w, handOn := some (.record r) }))
        ∧ (checkRecord f.payload = .malformed → exec (.frameReceived f) s = .next
          ((idle s { s.link with lastWinner := w }).countBroken h.source))
        ∧ (checkRecord f.payload = .discarded → exec (.frameReceived f) s = .next
          (idle s { s.link with lastWinner := w }))))
    ∧ (frameGood f = true → frameKindOf f = .first → frameIndexOf f = 0 → f.payload.length = 128 →
        2 ≤ h.frames → h.frames ≤ 128 →
      (h.kind ≠ 2 → exec (.frameReceived f) s = .next (s.withLink { s.link with
        mode := .listening .between, quiet := 0,
        opened := some { header := h, taken := 1, holding := .buffered f.payload, counted := false } }))
      ∧ (h.kind = 2 → exec (.frameReceived f) s = .next (s.withLink { s.link with
        mode := .listening .between, quiet := 0,
        fifo := [{ frame := some { kind := .first, index := 0, payload := f.payload }, lost := false }],
        opened := some { header := h, taken := 0, holding := .unclassified, counted := false } })))
    ∧ (frameGood f = true → frameKindOf f = .only →
        (frameIndexOf f ≠ 0 ∨ f.payload.length < 9 ∨ h.frames ≠ 1) →
      exec (.frameReceived f) s = .next (idle s s.link))
    ∧ (frameGood f = true → frameKindOf f = .first →
        (frameIndexOf f ≠ 0 ∨ f.payload.length ≠ 128 ∨ h.frames < 2 ∨ 128 < h.frames) →
      exec (.frameReceived f) s = .next
        (s.withLink { s.link with mode := .listening .between, quiet := 0 }))
    ∧ (frameGood f = true → frameKindOf f = .middle → exec (.frameReceived f) s = .next
      (s.withLink { s.link with mode := .listening .between, quiet := 0 }))
    ∧ (frameGood f = true → frameKindOf f = .last → exec (.frameReceived f) s = .next (idle s s.link)))
  ∧ (∀ (s : State) (f : Frame) (o : OpenRecord), s.atRest → f.ok = true →
    s.link.mode = .listening .inFrame → s.link.fifo = [] → s.link.opened = some o →
    s.link.handOn = none → 1 ≤ o.taken →
    let good := frameGood f = true
    let follows (t : State) (l : Link) : State := t.withLink { l with
      mode := if good ∧ (frameKindOf f = .last ∨ frameKindOf f = .only) then .idleWait
        else .listening .between
      quiet := 0 }
    let closed : Link := { s.link with opened := none }
    let kept (g : Holding) : State :=
      follows s { s.link with opened := some { o with taken := o.taken + 1, holding := g } }
    let middle := good ∧ frameKindOf f = .middle ∧ frameIndexOf f = o.taken
      ∧ o.taken + 1 < o.header.frames ∧ f.payload.length = 128
    let last := good ∧ frameKindOf f = .last ∧ frameIndexOf f = o.taken
      ∧ o.taken + 1 = o.header.frames
    let broken (t : State) : State := if o.counted = true then t else t.countBroken o.header.source
    (∀ bs, o.holding = .buffered bs → o.taken < 11 →
      (middle → exec (.frameReceived f) s = .next (kept (.buffered (bs ++ f.payload))))
      ∧ (last →
        let whole := bs ++ f.payload
        let h := Header.ofBytes whole
        let w := if h.source ≤ 31 then h.source else s.link.lastWinner
        (h.source = s.control.number → exec (.frameReceived f) s = .next
          (follows s.finishFrame { closed with handOn := some .conflict }))
        ∧ (h.source ≠ s.control.number →
          (∀ r, checkRecord whole = .passed r → exec (.frameReceived f) s = .next
            (follows s.finishFrame { closed with lastWinner := w, handOn := some (.record r) }))
          ∧ (checkRecord whole = .malformed → exec (.frameReceived f) s = .next
            ((follows s { closed with lastWinner := w }).countBroken h.source))
          ∧ (checkRecord whole = .discarded → exec (.frameReceived f) s = .next
            (follows s { closed with lastWinner := w })))))
    ∧ (o.holding = .discarded →
      (middle → exec (.frameReceived f) s = .next (kept .discarded))
      ∧ (last →
        let j := o.header.source
        let w := if j ≤ 31 then j else s.link.lastWinner
        let short := 128 * (o.header.frames - 1) + f.payload.length ≠ 6153
        (j = s.control.number → exec (.frameReceived f) s = .next
          (follows s.finishFrame { closed with handOn := some .conflict }))
        ∧ (j ≠ s.control.number →
          (j ≤ 23 ∧ short ∧ o.counted = false → exec (.frameReceived f) s = .next
            ((follows s { closed with lastWinner := w }).countBroken j))
          ∧ (23 < j ∨ ¬short ∨ o.counted = true → exec (.frameReceived f) s = .next
            (follows s { closed with lastWinner := w })))))
    ∧ (o.holding ≠ .current →
      ((¬good ∨ frameKindOf f = .middle ∧ ¬middle ∨ frameKindOf f = .last ∧ ¬last
          ∨ (∃ bs, o.holding = .buffered bs) ∧ 11 ≤ o.taken
            ∧ (frameKindOf f = .middle ∨ frameKindOf f = .last)) →
        exec (.frameReceived f) s = .next (broken (follows s closed)))
      ∧ (good → (frameKindOf f = .first ∨ frameKindOf f = .only) →
        exec (.frameReceived f) s = exec (.frameReceived f) (broken (s.withLink closed))))
    ∧ (o.holding = .current →
      (good → (frameKindOf f = .middle ∨ frameKindOf f = .last) →
        exec (.frameReceived f) s = .next (follows s { s.link with
          fifo := [{ frame := some { kind := frameKindOf f, index := frameIndexOf f,
                                     payload := f.payload }
                     lost := false }] }))
      ∧ (∀ c sums next, o.counted = false → s.epochs.exchange = some c →
          pairOf c.pairs o.header.source = some (.receiving sums next) →
          let ended (t : State) : State := State.countBroken { t with
            epochs := { s.epochs with exchange := some { c with
              pairs := setPair o.header.source .broken c.pairs } }
            engine := { s.engine with work := WorkBuffer.empty, inHand := none } } o.header.source
          (¬good → exec (.frameReceived f) s = .next (ended (follows s closed)))
          ∧ (good → (frameKindOf f = .first ∨ frameKindOf f = .only) →
            exec (.frameReceived f) s = exec (.frameReceived f) (ended (s.withLink closed))))))
  ∧ ((∀ (fifo : List FifoEntry) (f : Frame), fifo.length < 4 →
    ∃ e, takeInto fifo f = fifo ++ [e] ∧ e.lost = false ∧ (e.frame = none ↔ frameGood f = false))
  ∧ (∀ (rest : List FifoEntry) (e : FifoEntry) (f : Frame), rest.length = 3 →
    takeInto (rest ++ [e]) f = rest ++ [{ e with lost := true }])
  ∧ ∀ s : State, s.hold = .free → s.link.mode ≠ .stopped → s.link.clearSeen = false →
    (s.drivesWait = true ↔ 4 ≤ s.link.fifo.length ∨ s.control.barrier.claim = true))

/-! ## Records -/

/-- PRESENCE_RECORD, VERDICT_RECORD and HISTORY_RECORD: the peer's entry takes the digest and the run number
heard and the state of R96; a PRESENCE adds its reported states, a VERDICT its identity, or a duplicate
count when the entry holds that identity; no other entry changes. An epoch VERDICT of another run, heard outside
BARRIER, sets RUN_MISSED besides. -/
def Obligations.HeardRecordsMoveThePeersEntry : Prop :=
  ∀ (s : State) (r : RxRecord), s.atRest → s.rosterSound → s.link.handOn = some (.record r) →
    s.link.fifo = [] → r.header.source ≤ 23 → r.header.source ≠ s.control.number →
    let j := r.header.source
    let before := (rosterFind s.roster j).getD (RosterEntry.fresh j)
    let heard : RosterEntry := { before with
      digest := some r.header.digest, run := some r.header.run
      state := if r.header.digest ≠ s.ownDigest then .alien
        else if before.state = .unheard ∨ before.state = .alien then .heard
        else before.state }
    let gives (c : Instr) (e : RosterEntry) : Prop := ∃ t, exec c s = .next t
      ∧ rosterFind t.roster j = some e
      ∧ (∀ i, i ≠ j → rosterFind t.roster i = rosterFind s.roster i)
      ∧ t.link = { s.link with handOn := none } ∧ t.control = s.control ∧ t.capture = s.capture
      ∧ t.epochs = s.epochs ∧ t.engine = s.engine ∧ t.solver = s.solver ∧ t.verdicts = s.verdicts
      ∧ t.queue = s.queue ∧ t.pending = s.pending
    (∀ b, r.header.kind = 1 → r.body = .presence b →
      gives .presenceRecord { heard with runState := some b.runState, dut := some b.dut })
    ∧ (r.header.kind = 5 → gives .historyRecord heard)
    ∧ (∀ b, r.header.kind = 4 → r.body = .verdict b →
        let noted : RosterEntry :=
          if before.verdictId = some (r.header.run, r.header.epoch) then
            { heard with duplicate := min 65535 (before.duplicate + 1) }
          else { heard with verdictId := some (r.header.run, r.header.epoch) }
        ∃ t, exec .verdictRecord s = .next t ∧ rosterFind t.roster j = some noted
          ∧ (∀ i, i ≠ j → rosterFind t.roster i = rosterFind s.roster i)
          ∧ (b.runClose = false → r.header.run ≠ s.epochs.runNumber →
              (s.control.state = .awaitSetup ∨ s.control.state = .ready ∨ s.control.state = .running) →
              t.verdicts = s.verdicts.raise .runMissed))
    ∧ (∀ b, r.header.kind = 4 → r.body = .verdict b →
        (b.runClose = true ∨ r.header.run = s.epochs.runNumber) →
        (before.verdictId = some (r.header.run, r.header.epoch) →
          gives .verdictRecord { heard with duplicate := min 65535 (before.duplicate + 1) })
        ∧ (before.verdictId ≠ some (r.header.run, r.header.epoch) →
          gives .verdictRecord { heard with verdictId := some (r.header.run, r.header.epoch) }))

/-- SUMMARY_RECORD. One that R36 refuses (of another run, of a foreign digest, or outside RUNNING) is only heard;
of another run, heard outside BARRIER, it sets RUN_MISSED, with a PRESENCE when that was clear. One of the
station's own run and setup is heard, makes the peers it names known, and is classified by its epoch. A context
of that epoch in EXCHANGE or in SUMMARY_WAIT without a void reason stores the first summary of a source, and a
second one is a duplicate; stored in SUMMARY_WAIT, it triggers the solve when every DONE peer now has a summary
there, and that solve waits in the solver for its beginning (notes/assumptions/10.md). For a void context it is
unpaired, and without a live context it is late. In a PERIOD run the stores stay as they are (R125, R159); that one
for a live context is discarded there without a count is the model's choice (notes/assumptions/36.md). The peers
named that have no entry get a new one, UNHEARD. A broken, late or duplicate record raises its own count of its
source by one, up to 65,535; an entry that is missing is created UNHEARD; the other entries stay; and a number the
roster may not hold changes nothing (R95, R100). -/
def Obligations.SummaryIsStoredOrCounted : Prop :=
  (∀ (s : State) (r : RxRecord) (es : List SummaryEntry), s.atRest →
    s.link.handOn = some (.record r) → s.link.fifo = [] → r.header.kind = 3 → r.body = .summary es →
    let j := r.header.source
    let taken : State := s.withLink { s.link with handOn := none }
    let heard : State := taken.hear r.header
    let named : State := heard.noteNamed r.header es
    let stored (c : Context) : Context :=
      { c with summaries := c.summaries ++ [{ source := j, entries := es }] }
    let early (c : Context) : Prop :=
      ∀ p ∈ c.pairs, ∀ vs, p.state = .done vs → ∃ m ∈ c.summaries, m.source = p.peer
    (r.header.run = s.epochs.runNumber → (s.control.state ≠ .running ∨ r.header.digest ≠ s.ownDigest) →
      exec .summaryRecord s = .next heard)
    ∧ (r.header.run ≠ s.epochs.runNumber →
      (s.control.state = .barrier → exec .summaryRecord s = .next heard)
      ∧ ((s.control.state = .awaitSetup ∨ s.control.state = .ready ∨ s.control.state = .running) →
        (Event.runMissed.isIn s.verdicts.events = true →
          exec .summaryRecord s = .next (heard.raise .runMissed))
        ∧ (Event.runMissed.isIn s.verdicts.events = false →
          exec .summaryRecord s = .next (heard.raise .runMissed).presenceMade)))
    ∧ (s.control.state = .running → r.header.run = s.epochs.runNumber → r.header.digest = s.ownDigest →
      (∀ e ∈ es, e.peer ≤ 23 → e.peer ≠ s.control.number →
        ∃ x, rosterFind named.roster e.peer = some x)
      ∧ (∀ c, s.epochs.exchange = some c → c.epoch = r.header.epoch →
        (c.void ≠ none ∨ s.engine.mode = some .period → exec .summaryRecord s = .next named)
        ∧ (c.void = none → s.engine.mode ≠ some .period → (∃ m ∈ c.summaries, m.source = j) →
          exec .summaryRecord s = .next (named.countDuplicate j))
        ∧ (c.void = none → s.engine.mode ≠ some .period → (∀ m ∈ c.summaries, m.source ≠ j) →
          exec .summaryRecord s = .next (named.withEpochs { s.epochs with exchange := some (stored c) })))
      ∧ ((∀ x, s.epochs.exchange = some x → x.epoch ≠ r.header.epoch) →
        (∀ c, s.epochs.summaryWait = some c → c.epoch = r.header.epoch →
          (c.void ≠ none ∨ s.engine.mode = some .period → exec .summaryRecord s = .next named)
          ∧ (c.void = none → s.engine.mode ≠ some .period → (∃ m ∈ c.summaries, m.source = j) →
            exec .summaryRecord s = .next (named.countDuplicate j))
          ∧ (c.void = none → s.engine.mode ≠ some .period → (∀ m ∈ c.summaries, m.source ≠ j) →
            (¬early (stored c) → exec .summaryRecord s = .next
              (named.withEpochs { s.epochs with summaryWait := some (stored c) }))
            ∧ (early (stored c) → exec .summaryRecord s = .next
              ((named.withEpochs { s.epochs with summaryWait := none }).withSolver
                { s.solver with waiting := s.solver.waiting ++ [stored c] }))))
        ∧ ((∀ x, s.epochs.summaryWait = some x → x.epoch ≠ r.header.epoch) →
          exec .summaryRecord s = .next (named.countLate j)))))
  ∧ (∀ (s : State) (h : Header) (es : List SummaryEntry), s.rosterSound → s.control.state = .running →
      h.run = s.epochs.runNumber → h.digest = s.ownDigest →
      let named := s.noteNamed h es
      named = { s with roster := named.roster }
      ∧ (∀ i e, rosterFind s.roster i = some e → rosterFind named.roster i = some e)
      ∧ ∀ i, rosterFind s.roster i = none → rosterFind named.roster i =
          if i ≤ 23 ∧ i ≠ s.control.number ∧ ∃ e ∈ es, e.peer = i then some (RosterEntry.fresh i) else none)
  ∧ ∀ (s : State) (j : Nat), s.rosterSound →
      let before : RosterEntry := (rosterFind s.roster j).getD
        { peer := j, state := .unheard, digest := none, run := none, runState := none, dut := none
          verdictId := none, missed := 0, mismatch := 0, broken := 0, late := 0, duplicate := 0 }
      let counts (t : State) (e : RosterEntry) : Prop :=
        t = { s with roster := t.roster } ∧ rosterFind t.roster j = some e
        ∧ ∀ i, i ≠ j → rosterFind t.roster i = rosterFind s.roster i
      (23 < j ∨ j = s.control.number →
        s.countBroken j = s ∧ s.countLate j = s ∧ s.countDuplicate j = s)
      ∧ (j ≤ 23 → j ≠ s.control.number →
        counts (s.countBroken j) { before with broken := min 65535 (before.broken + 1) }
        ∧ counts (s.countLate j) { before with late := min 65535 (before.late + 1) }
        ∧ counts (s.countDuplicate j) { before with duplicate := min 65535 (before.duplicate + 1) })

/-- NUMBER_CONFLICT: CONFLICT is entered, NUMBER_CONFLICT is set, the link stops and releases every line, the
queue is empty, a run is abandoned without a verdict, and no PRESENCE is made; setup, number, mask, history
and run number are kept. That the epoch counter is kept, and that a record open in assembly is dropped without a
count, so that the roster stays, is the model's reading (notes/assumptions/23.md). -/
def Obligations.NumberConflictStopsTheStation : Prop :=
  ∀ s : State, s.atRest → s.link.handOn = some .conflict → ∃ t, exec .numberConflict s = .next t
    ∧ t.control = { s.control with
        state := .conflict, barrier := { claim := false, looking := false, armed := false } }
    ∧ t.verdicts.events = s.verdicts.events ||| 0x20 ∧ t.verdicts.mask = s.verdicts.mask
    ∧ t.verdicts.history = s.verdicts.history ∧ t.verdicts.separated = s.verdicts.separated
    ∧ t.verdicts.bound = s.verdicts.bound ∧ t.verdicts.period = s.verdicts.period
    ∧ t.verdicts.snapshot = none ∧ t.queue = Queue.empty ∧ t.link.mode = .stopped ∧ t.link.fifo = []
    ∧ t.link.opened = none ∧ t.link.handOn = none ∧ t.link.counts = s.link.counts
    ∧ t.epochs.runNumber = s.epochs.runNumber ∧ t.epochs.counter = s.epochs.counter
    ∧ (s.control.state = .running → t.epochs.capture = none ∧ t.epochs.exchange = none
        ∧ t.epochs.summaryWait = none ∧ t.solver = Solver.empty ∧ t.capture.clock = none
        ∧ t.capture.awaiting = [] ∧ t.capture.dut = none)
    ∧ t.roster = s.roster ∧ t.pending = s.pending ∧ t.drivesWait = false ∧ t.drivesOpen = false
    ∧ t.drivesClear = false ∧ t.drivesLink = .released

/-! ## Run control -/

/-- SETUP in AWAIT_SETUP or READY: refused on its nominal period, or accepted with p, settle epochs and minimum
epochs clamped: setup, digest, mask and READY, and the roster compares digests; a PRESENCE is made either way. The
digest runs over the 42 bytes of the effective setup, bit by bit (R94). In BARRIER and RUNNING it is ignored. -/
def Obligations.SetupIsClampedOrRefused : Prop :=
  (∀ (s : State) (r : RxRecord) (f : SetupFields), s.atRest → s.link.handOn = some (.record r) →
    s.link.fifo = [] → r.header.kind = 8 → r.body = .setup f →
    let taken := s.withLink { s.link with handOn := none }
    let u : Setup :=
      { exponent := max 10 (min 16 f.exponent), tNom := f.tNom, tolerance := f.tolerance,
        settleEpochs := min 255 f.settleEpochs, mode := if f.modeByte = 1 then .period else .hat,
        limits := f.limits, figureMask := f.figureMask, figureLimit := f.figureLimit,
        minEpochs := max 1 f.minEpochs, mask := f.maskByte.setWidth 7 }
    let compared (d : Byte) (st : PeerState) : PeerState :=
      if d ≠ digestOf u.bytes then .alien
      else if st = .unheard ∨ st = .alien then .heard
      else st
    ((s.control.state = .awaitSetup ∨ s.control.state = .ready) →
      ((f.tNom < 32000 * 65536 ∨ 8000000 * 65536 < f.tNom) →
        exec .setup s = .next taken.presenceMade)
      ∧ (32000 * 65536 ≤ f.tNom → f.tNom ≤ 8000000 * 65536 →
        exec .setup s = .next (State.presenceMade { taken with
          control := { s.control with
            held := some { setup := u, digest := digestOf u.bytes }, state := .ready }
          verdicts := { s.verdicts with mask := f.maskByte.setWidth 7 }
          roster := s.roster.map fun e => match e.digest with
            | some d => { e with state := compared d e.state }
            | none => e })))
    ∧ ((s.control.state = .barrier ∨ s.control.state = .running) → exec .setup s = .next taken))
  ∧ (∀ u : Setup,
      u.limits.length = 8 →
      let bs := u.bytes
      let number (n count : Nat) : Nat := ((bs.drop n).take count).foldl (fun v b => 256 * v + b.toNat) 0
      bs.length = 42 ∧ number 0 1 = u.exponent % 256 ∧ number 1 5 = u.tNom % 2 ^ 40
      ∧ number 6 3 = u.tolerance % 2 ^ 24 ∧ number 9 2 = u.settleEpochs % 65536
      ∧ number 11 1 = (if u.mode = .period then 1 else 0)
      ∧ (∀ k < 8, number (12 + 3 * k) 3 = u.limits.getD k 0 % 2 ^ 24)
      ∧ bs.getD 36 0 = u.figureMask ∧ number 37 3 = u.figureLimit % 2 ^ 24
      ∧ number 40 1 = u.minEpochs % 256 ∧ bs.getD 41 0 = u.mask.setWidth 8)
  ∧ digestOf [] = 0
  ∧ ∀ (bs : List Byte) (b : Byte), digestOf (bs ++ [b]) = (List.range 8).foldl
      (fun (r : Byte) i => if r.msb = b.getMsbD i then r <<< 1 else (r <<< 1) ^^^ 0x07) (digestOf bs)

/-- START in READY with the station's own digest: run number, slip counter, verdict unit, roster, BARRIER with
its claim on WAIT, and a PRESENCE. That the claim restarts the quiet count is the model's choice
(notes/assumptions/22.md; R64's table says unchanged). With another digest, or in AWAIT_SETUP, it is ignored and
sets RUN_MISSED; in BARRIER and RUNNING it is ignored. -/
def Obligations.StartEntersTheBarrier : Prop :=
  ∀ (s : State) (r : RxRecord) (run : Nat) (digest : Byte), s.atRest →
    s.link.handOn = some (.record r) → s.link.fifo = [] → r.header.kind = 9 →
    r.body = .start run digest →
    let taken := s.withLink { s.link with handOn := none }
    let missed := taken.raise .runMissed
    (s.control.state = .ready → digest = s.ownDigest →
      exec .start s = .next (State.presenceMade { taken with
        link := { s.link with handOn := none, quiet := 0 }
        epochs := { s.epochs with runNumber := run }
        capture := { s.capture with slips := 0 }
        verdicts := { s.verdicts with
          newest := none, lastReported := none, separated := AccSet.empty, bound := AccSet.empty,
          period := PeriodRun.empty, firstFailure := none, lastY := none, dutAtEnd := none }
        roster := s.roster.map fun e => { e with
          state := if e.state = .partner ∨ e.state = .quiet then .heard else e.state
          missed := 0, mismatch := 0, runState := none, dut := none, verdictId := none }
        control := { s.control with
          state := .barrier, barrier := { claim := true, looking := false, armed := false } } }))
    ∧ ((s.control.state = .awaitSetup ∨ s.control.state = .ready ∧ digest ≠ s.ownDigest) →
      (Event.runMissed.isIn s.verdicts.events = true → exec .start s = .next missed)
      ∧ (Event.runMissed.isIn s.verdicts.events = false → exec .start s = .next missed.presenceMade))
    ∧ ((s.control.state = .barrier ∨ s.control.state = .running) → exec .start s = .next taken)

/-- BARRIER_LOOK_BEGIN and BARRIER_RELEASE_SEEN: the look begins, and once the release of WAIT is seen, at the
look's beginning or after it, the station is armed. -/
def Obligations.ReleaseOfWaitArmsTheStation : Prop :=
  ∀ s : State, s.atRest → s.control.state = .barrier → s.link.clearSeen = false →
    let flags (armed : Bool) : State := s.withControl { s.control with
      barrier := { s.control.barrier with looking := true, armed := armed } }
    (s.control.barrier.looking = false →
      exec (.barrierLookBegin false) s = .next (flags s.control.barrier.armed)
      ∧ (s.drivesWait = false → exec (.barrierLookBegin true) s = .next (flags true))
      ∧ (s.drivesWait = true →
        exec (.barrierLookBegin true) s = .next (flags s.control.barrier.armed)))
    ∧ (s.control.barrier.looking = true → s.drivesWait = false →
      exec .barrierReleaseSeen s = .next (flags true))

/-- STOP in RUNNING: capture stops, contexts and solves are abandoned, a current PHASE with them; of the PHASE and
SUMMARY slots an UNSENT record and a successor are dropped and one ON_LINK is marked, so that it runs on and is
not sent again; the run-close verdict joins the history, and its VERDICT with the reported set's values is
offered; the station is READY, and a PRESENCE is made. In BARRIER it returns to READY with no run-close verdict;
in AWAIT_SETUP and READY it is ignored. -/
def Obligations.StopClosesTheRun : Prop :=
  (∀ (s : State) (r : RxRecord), s.atRest → s.link.handOn = some (.record r) →
    s.link.fifo = [] → r.header.kind = 10 →
    let taken := s.withLink { s.link with handOn := none }
    (∀ h : HeldSetup, s.control.held = some h →
      let v : VerdictUnit := { s.verdicts with dutAtEnd := s.capture.dut }
      let f : Finding := v.runClose h.setup s.inPeriod
      let p : Reported := (v.reportedSet h.setup s.inPeriod).getD
        { reading := .bound, grade := .none, n := 0, q := [], figure := 0
          bands := [0, 0, 0, 0, 0, 0, 0, 0], j := 0 }
      let b : VerdictBody :=
        { verdict := f.verdict, reason := f.reason, reasonBand := f.band, grade := p.grade, n := p.n,
          mode := h.setup.mode, belowFloor := 0, runClose := true, events := 0, slips := s.capture.slips,
          y := s.verdicts.lastY.getD 0, bands := p.bands, figure := p.j,
          separatedCount := s.verdicts.separated.count
          boundCount := if s.inPeriod = true then s.verdicts.period.count else s.verdicts.bound.count }
      let made (kind : Nat) (body : Body) : Record :=
        { header := { kind := kind, source := s.control.number, target := 255, run := s.epochs.runNumber,
                      epoch := s.epochs.counter, digest := s.ownDigest,
                      frames := frameCount (9 + body.bytes.length) }
          body := body }
      let verdict := Slot.offer .verdict (made 4 (.verdict b)) s.queue.verdict s.link.counts
      let presence := Slot.offer .presence (made 1 (.presence
        { runState := .ready, dut := if s.capture.active = true then .active else .absent,
          cause := s.control.cause, setupHeld := true, events := 0, slips := s.capture.slips }))
        s.queue.presence verdict.2
      (s.control.state = .running → ∃ t, exec .stop s = .next t
        ∧ t.control = { s.control with state := .ready }
        ∧ t.epochs = { s.epochs with capture := none, exchange := none, summaryWait := none }
        ∧ t.solver = { running := none, waiting := [] }
        ∧ t.capture = { Capture.reset with
            slips := s.capture.slips, active := s.capture.active, tNomRounded := s.capture.tNomRounded }
        ∧ t.engine = { PairEngine.reset with mode := s.engine.mode }
        ∧ t.verdicts.dutAtEnd = s.capture.dut ∧ t.verdicts.newest = s.verdicts.newest
        ∧ (∃ e, t.verdicts.history = ringJoin s.verdicts.history e ∧ e.run = s.epochs.runNumber
            ∧ e.epoch = s.epochs.counter ∧ e.runClose = true ∧ e.verdict = f.verdict
            ∧ e.reason = f.reason ∧ e.reasonBand = f.band ∧ e.y = s.verdicts.lastY.getD 0
            ∧ e.grade = p.grade ∧ e.n = p.n ∧ e.bands = p.bands ∧ e.figure = p.j)
        ∧ t.verdicts.events = s.verdicts.events ||| (if f.verdict = .fail then 0x02 else 0)
        ∧ t.queue.phase = s.queue.phase.endRun ∧ t.queue.summary = s.queue.summary.endRun
        ∧ (s.link.mode ≠ .stopped → t.queue.verdict = verdict.1 ∧ t.queue.presence = presence.1
            ∧ t.link.counts = presence.2)
        ∧ t.link.opened = s.link.opened.map (fun o =>
            if o.holding = .current then { o with taken := max 1 o.taken, holding := .discarded } else o)
        ∧ t.link.fifo = [] ∧ t.link.handOn = none
        ∧ t.queue.history = s.queue.history ∧ t.roster = s.roster ∧ t.pending = s.pending
        ∧ t.verdicts.separated = s.verdicts.separated ∧ t.verdicts.bound = s.verdicts.bound
        ∧ t.verdicts.period = s.verdicts.period ∧ t.verdicts.lastReported = s.verdicts.lastReported
        ∧ t.verdicts.mask = s.verdicts.mask ∧ t.hold = s.hold))
    ∧ (s.control.state = .barrier → exec .stop s = .next (State.presenceMade { taken with
        control := { s.control with
          state := .ready, barrier := { claim := false, looking := false, armed := false } } }))
    ∧ ((s.control.state = .awaitSetup ∨ s.control.state = .ready) → exec .stop s = .next taken))
  ∧ ∀ (sl : Slot),
    ((sl.state = .empty ∨ ∃ r, sl.state = .unsent r) →
      sl.endRun = { state := .empty, successor := none })
    ∧ ∀ r past ended, sl.state = .onLink r past ended →
      sl.endRun = { state := .onLink r past true, successor := none }

/-- RECALL for this station with an EMPTY HISTORY slot: a HISTORY of the link counts, the ring newest first
and the roster in ascending number is offered; any other RECALL is ignored. -/
def Obligations.RecallIsAnsweredWithAHistory : Prop :=
  ∀ (s : State) (r : RxRecord), s.atRest → s.link.handOn = some (.record r) → s.link.fifo = [] →
    r.header.kind = 11 →
    let taken := s.withLink { s.link with handOn := none }
    let body : HistoryBody :=
      { counts := s.link.counts, entries := s.verdicts.history.reverse
        roster := s.roster.map fun e =>
          { peer := e.peer, state := e.state, missed := e.missed, mismatch := e.mismatch,
            broken := e.broken, late := e.late, duplicate := e.duplicate } }
    (r.header.target = s.control.number → s.queue.history.state = .empty →
      exec .recall s = .next (taken.offer .history
        { header := { kind := 5, source := s.control.number, target := 255, run := s.epochs.runNumber,
                      epoch := s.epochs.counter, digest := s.ownDigest,
                      frames := frameCount (9 + body.bytes.length) }
          body := .history body }))
    ∧ (r.header.target ≠ s.control.number ∨ s.queue.history.state ≠ .empty →
      exec .recall s = .next taken)

/-! ## Encoding -/

/-- A PRESENCE, VERDICT or SUMMARY with its fields in range, written as a record's bytes, passes the checks on
received records and reads back field for field; and a PHASE's residual bytes split back into its residuals. A
received record is discarded where its kind is unknown or its source does not suit it, malformed where its length
or a field of R84 is wrong, and passes otherwise, each field read from its bytes of section 5.6, those of a SETUP
and a START included; a PHASE in one
frame, which cannot hold its 6,153 bytes, is malformed. A HISTORY, whose fields no receiver reads, carries them
at their bytes. The CRC runs over header and payload bit by bit (R93), and a frame is good where it matches. A
record of any kind is cut into frames as R45 and R81 lay down: frame i carries the record's bytes from 128 × i,
with its index, its kind, its length and a good CRC, and the payloads together are the record. -/
def Obligations.SentRecordsReadBack : Prop :=
  (∀ h : Header, h.source ≤ 23 → h.target < 256 → h.run < 256 → h.epoch < 2 ^ 24 → h.frames < 256 →
    (∀ b : PresenceBody, h.kind = 1 → b.runState ≠ .strapFault → b.runState ≠ .conflict →
      b.slips < 65536 →
      checkRecord (Record.bytes ⟨h, .presence b⟩) = .passed ⟨h, .presence b⟩)
    ∧ (∀ b : VerdictBody, h.kind = 4 → b.reasonBand < 256 → b.n < 256 → b.slips < 65536 →
      -2 ^ 31 ≤ b.y → b.y < 2 ^ 31 → b.bands.length = 8 → (∀ x ∈ b.bands, x < 2 ^ 32) →
      b.figure < 2 ^ 32 → b.separatedCount < 65536 → b.boundCount < 65536 →
      checkRecord (Record.bytes ⟨h, .verdict b⟩) = .passed ⟨h, .verdict b⟩)
    ∧ (∀ es : List SummaryEntry, h.kind = 3 → es.length ≤ 23 →
      (∀ e ∈ es, e.peer ≤ 23 ∧ e.peer ≠ h.source ∧ e.values.length = 8 ∧ ∀ x ∈ e.values, x < 2 ^ 52) →
      es.Pairwise (fun a b => a.peer < b.peer) →
      checkRecord (Record.bytes ⟨h, .summary es⟩) = .passed ⟨h, .summary es⟩))
  ∧ (∀ rs : List Int, (∀ r ∈ rs, -8388607 ≤ r ∧ r ≤ 8388607) →
      splitResiduals (rs.flatMap (signedBytesOf 3)) = (rs, []))
  ∧ (∀ bs : List Byte,
      let at_ (n : Nat) : Nat := (bs.getD n 0).toNat
      let number (n count : Nat) : Nat := ((bs.drop n).take count).foldl (fun v b => 256 * v + b.toNat) 0
      let h : Header := { kind := at_ 0, source := at_ 1, target := at_ 2, run := at_ 3
                          epoch := at_ 4 * 65536 + at_ 5 * 256 + at_ 6, digest := bs.getD 7 0
                          frames := at_ 8 }
      let suits : Prop := 1 ≤ h.kind ∧ h.kind ≤ 5 ∧ h.source ≤ 23 ∨ 8 ≤ h.kind ∧ h.kind ≤ 11 ∧ h.source = 31
      let peer (e : Nat) : Nat := at_ (10 + 57 * e)
      let reports := at_ (26 + 50 * at_ 25)
      let sound : Prop :=
        h.kind = 1 ∧ bs.length = 16 ∧ at_ 9 ≤ 3 ∧ at_ 10 ≤ 4 ∧ at_ 11 ≤ 1 ∧ at_ 12 ≤ 1
        ∨ h.kind = 3 ∧ bs.length = 10 + 57 * at_ 9 ∧ at_ 9 ≤ 23
          ∧ (∀ e < at_ 9, peer e ≤ 23 ∧ peer e ≠ h.source ∧ (∀ k < 8, number (11 + 57 * e + 7 * k) 7 < 2 ^ 52)
            ∧ (e + 1 < at_ 9 → peer e < peer (e + 1)))
        ∨ h.kind = 4 ∧ bs.length = 64 ∧ at_ 9 ≤ 4 ∧ at_ 10 ≤ 7 ∧ at_ 12 ≤ 3
        ∨ h.kind = 5 ∧ bs.length = 27 + 50 * at_ 25 + 10 * reports ∧ at_ 25 ≤ 8 ∧ reports ≤ 23
        ∨ h.kind = 8 ∧ bs.length = 51 ∨ h.kind = 9 ∧ bs.length = 11
        ∨ (h.kind = 10 ∨ h.kind = 11) ∧ bs.length = 9
      (¬suits → checkRecord bs = .discarded)
      ∧ (suits → ¬sound → (h.kind = 2 → bs.length ≠ 6153) → checkRecord bs = .malformed)
      ∧ (suits → sound → ∃ body, checkRecord bs = .passed ⟨h, body⟩
        ∧ (h.kind = 1 → ∃ b, body = .presence b
          ∧ [RunState.awaitSetup, .ready, .barrier, .running][at_ 9]? = some b.runState
          ∧ [DutReport.absent, .active, .settling, .measuring, .wrongFrequency][at_ 10]? = some b.dut
          ∧ [ResetCause.power, .pin][at_ 11]? = some b.cause ∧ (b.setupHeld = true ↔ at_ 12 = 1)
          ∧ b.events = (bs.getD 13 0).setWidth 7 ∧ b.slips = number 14 2)
        ∧ (h.kind = 3 → ∃ es, body = .summary es ∧ es.length = at_ 9
          ∧ ∀ e < at_ 9, es[e]? = some { peer := peer e
                                         values := (List.range 8).map fun k => number (11 + 57 * e + 7 * k) 7 })
        ∧ (h.kind = 4 → ∃ b, body = .verdict b
          ∧ [Verdict.pass, .marginal, .fail, .unresolved, .noResult][at_ 9]? = some b.verdict
          ∧ [Reason.none, .wander, .offFrequency, .band, .figure, .disturbed, .dutLost, .tooFewEpochs][at_ 10]?
            = some b.reason
          ∧ b.reasonBand = at_ 11 ∧ [Grade.none, .separated, .pairBound, .referenceBound][at_ 12]? = some b.grade
          ∧ b.n = at_ 13 ∧ (at_ 14 = 0 → b.mode = .hat) ∧ (at_ 14 = 1 → b.mode = .period)
          ∧ b.belowFloor = bs.getD 15 0
          ∧ (b.runClose = true ↔ at_ 16 % 2 = 1) ∧ b.events = (bs.getD 17 0).setWidth 7
          ∧ b.slips = number 18 2
          ∧ b.y = (if number 20 4 < 2 ^ 31 then (number 20 4 : Int) else (number 20 4 : Int) - 2 ^ 32)
          ∧ b.bands = ((List.range 8).map fun k => number (24 + 4 * k) 4) ∧ b.figure = number 56 4
          ∧ b.separatedCount = number 60 2 ∧ b.boundCount = number 62 2)
        ∧ (h.kind = 5 → body = .history)
        ∧ (h.kind = 8 → body = .setup
          { exponent := at_ 9, tNom := number 10 5, tolerance := number 15 3, settleEpochs := number 18 2
            modeByte := at_ 20, limits := (List.range 8).map fun k => number (21 + 3 * k) 3
            figureMask := bs.getD 45 0, figureLimit := number 46 3, minEpochs := at_ 49
            maskByte := bs.getD 50 0 })
        ∧ (h.kind = 9 → body = .start (at_ 9) (bs.getD 10 0))
        ∧ (h.kind = 10 → body = .stop) ∧ (h.kind = 11 → body = .recall)))
  ∧ (∀ (h : Header) (b : HistoryBody), b.entries.length ≤ 8 → b.roster.length ≤ 23 →
      (∀ e ∈ b.entries, e.bands.length = 8) →
      let bs := Record.bytes ⟨h, .history b⟩
      let number (n count : Nat) : Nat := ((bs.drop n).take count).foldl (fun v b => 256 * v + b.toNat) 0
      let rows := b.entries.length
      bs.length = 27 + 50 * rows + 10 * b.roster.length
      ∧ (h.kind = 5 → h.source ≤ 23 → ∃ g, checkRecord bs = .passed ⟨g, .history⟩)
      ∧ number 9 2 = b.counts.clearPresence % 65536 ∧ number 11 2 = b.counts.clearSummary % 65536
      ∧ number 13 2 = b.counts.clearPhase % 65536 ∧ number 15 2 = b.counts.clearVerdict % 65536
      ∧ number 17 2 = b.counts.clearHistory % 65536 ∧ number 19 2 = b.counts.phaseWithdrawn % 65536
      ∧ number 21 2 = b.counts.summaryWithdrawn % 65536
      ∧ number 23 2 = b.counts.verdictSuperseded % 65536
      ∧ number 25 1 = rows ∧ number (26 + 50 * rows) 1 = b.roster.length
      ∧ (∀ j e, b.entries[j]? = some e →
        let from_ (n count : Nat) : Nat := number (26 + 50 * j + n) count
        from_ 0 1 = e.run % 256 ∧ from_ 1 3 = e.epoch % 2 ^ 24 ∧ from_ 4 1 = (if e.runClose = true then 1 else 0)
        ∧ [Verdict.pass, .marginal, .fail, .unresolved, .noResult][from_ 5 1]? = some e.verdict
        ∧ [Reason.none, .wander, .offFrequency, .band, .figure, .disturbed, .dutLost, .tooFewEpochs][from_ 6 1]?
          = some e.reason
        ∧ from_ 7 1 = e.reasonBand % 256
        ∧ [Grade.none, .separated, .pairBound, .referenceBound][from_ 8 1]? = some e.grade
        ∧ from_ 9 1 = e.n % 256 ∧ (from_ 10 4 : Int) = e.y % 2 ^ 32
        ∧ (∀ k < 8, from_ (14 + 4 * k) 4 = e.bands.getD k 0 % 2 ^ 32) ∧ from_ 46 4 = e.figure % 2 ^ 32)
      ∧ ∀ m r, b.roster[m]? = some r →
        let from_ (n count : Nat) : Nat := number (27 + 50 * rows + 10 * m + n) count
        from_ 0 1 = r.peer % 256
        ∧ [PeerState.unheard, .heard, .partner, .quiet, .alien, .suspect][from_ 1 1]? = some r.state
        ∧ from_ 2 1 = r.missed % 256 ∧ from_ 3 1 = r.mismatch % 256 ∧ from_ 4 2 = r.broken % 65536
        ∧ from_ 6 2 = r.late % 65536 ∧ from_ 8 2 = r.duplicate % 65536)
  ∧ crc16 [] = 0xFFFF
  ∧ (∀ (bs : List Byte) (b : Byte), crc16 (bs ++ [b]) = (List.range 8).foldl
      (fun (r : BitVec 16) i => if r.msb = b.getMsbD i then r <<< 1 else (r <<< 1) ^^^ 0x1021) (crc16 bs))
  ∧ (∀ f : Frame, frameGood f = true ↔ f.crc = crc16
      (BitVec.ofNat 8 (f.header.toNat / 256) :: BitVec.ofNat 8 f.header.toNat :: f.payload))
  ∧ ∀ r : Record, r.bytes.length ≤ 16384 →
      let count := (r.bytes.length + 127) / 128
      (∀ i < count,
        let f := r.frame i
        f.ok = true ∧ frameGood f = true ∧ frameIndexOf f = i
        ∧ frameKindOf f = (if count = 1 then .only else if i = 0 then .first
            else if i + 1 = count then .last else .middle)
        ∧ f.payload = (r.bytes.drop (128 * i)).take 128
        ∧ (i + 1 < count → f.payload.length = 128)
        ∧ (i + 1 = count → f.payload.length = r.bytes.length - 128 * (count - 1)))
      ∧ ((List.range count).flatMap fun i => (r.frame i).payload) = r.bytes
end

