-- ==== Sys2Proof/Laws/State.lean ====
section
/-! SUPPORT. What each update of one block leaves in every field of State. -/

namespace Sys2Proof.Machine

/-! ### State.withControl -/

@[simp] theorem State.withControl_hold (s : State) (x : Control) : (s.withControl x).hold = s.hold := rfl
@[simp] theorem State.withControl_control (s : State) (x : Control) : (s.withControl x).control = x := rfl
@[simp] theorem State.withControl_capture (s : State) (x : Control) : (s.withControl x).capture = s.capture := rfl
@[simp] theorem State.withControl_epochs (s : State) (x : Control) : (s.withControl x).epochs = s.epochs := rfl
@[simp] theorem State.withControl_engine (s : State) (x : Control) : (s.withControl x).engine = s.engine := rfl
@[simp] theorem State.withControl_solver (s : State) (x : Control) : (s.withControl x).solver = s.solver := rfl
@[simp] theorem State.withControl_verdicts (s : State) (x : Control) : (s.withControl x).verdicts = s.verdicts := rfl
@[simp] theorem State.withControl_roster (s : State) (x : Control) : (s.withControl x).roster = s.roster := rfl
@[simp] theorem State.withControl_link (s : State) (x : Control) : (s.withControl x).link = s.link := rfl
@[simp] theorem State.withControl_queue (s : State) (x : Control) : (s.withControl x).queue = s.queue := rfl
@[simp] theorem State.withControl_pending (s : State) (x : Control) : (s.withControl x).pending = s.pending := rfl

/-! ### State.withCapture -/

@[simp] theorem State.withCapture_hold (s : State) (x : Capture) : (s.withCapture x).hold = s.hold := rfl
@[simp] theorem State.withCapture_control (s : State) (x : Capture) : (s.withCapture x).control = s.control := rfl
@[simp] theorem State.withCapture_capture (s : State) (x : Capture) : (s.withCapture x).capture = x := rfl
@[simp] theorem State.withCapture_epochs (s : State) (x : Capture) : (s.withCapture x).epochs = s.epochs := rfl
@[simp] theorem State.withCapture_engine (s : State) (x : Capture) : (s.withCapture x).engine = s.engine := rfl
@[simp] theorem State.withCapture_solver (s : State) (x : Capture) : (s.withCapture x).solver = s.solver := rfl
@[simp] theorem State.withCapture_verdicts (s : State) (x : Capture) : (s.withCapture x).verdicts = s.verdicts := rfl
@[simp] theorem State.withCapture_roster (s : State) (x : Capture) : (s.withCapture x).roster = s.roster := rfl
@[simp] theorem State.withCapture_link (s : State) (x : Capture) : (s.withCapture x).link = s.link := rfl
@[simp] theorem State.withCapture_queue (s : State) (x : Capture) : (s.withCapture x).queue = s.queue := rfl
@[simp] theorem State.withCapture_pending (s : State) (x : Capture) : (s.withCapture x).pending = s.pending := rfl

/-! ### State.withEpochs -/

@[simp] theorem State.withEpochs_hold (s : State) (x : Epochs) : (s.withEpochs x).hold = s.hold := rfl
@[simp] theorem State.withEpochs_control (s : State) (x : Epochs) : (s.withEpochs x).control = s.control := rfl
@[simp] theorem State.withEpochs_capture (s : State) (x : Epochs) : (s.withEpochs x).capture = s.capture := rfl
@[simp] theorem State.withEpochs_epochs (s : State) (x : Epochs) : (s.withEpochs x).epochs = x := rfl
@[simp] theorem State.withEpochs_engine (s : State) (x : Epochs) : (s.withEpochs x).engine = s.engine := rfl
@[simp] theorem State.withEpochs_solver (s : State) (x : Epochs) : (s.withEpochs x).solver = s.solver := rfl
@[simp] theorem State.withEpochs_verdicts (s : State) (x : Epochs) : (s.withEpochs x).verdicts = s.verdicts := rfl
@[simp] theorem State.withEpochs_roster (s : State) (x : Epochs) : (s.withEpochs x).roster = s.roster := rfl
@[simp] theorem State.withEpochs_link (s : State) (x : Epochs) : (s.withEpochs x).link = s.link := rfl
@[simp] theorem State.withEpochs_queue (s : State) (x : Epochs) : (s.withEpochs x).queue = s.queue := rfl
@[simp] theorem State.withEpochs_pending (s : State) (x : Epochs) : (s.withEpochs x).pending = s.pending := rfl

/-! ### State.withEngine -/

@[simp] theorem State.withEngine_hold (s : State) (x : PairEngine) : (s.withEngine x).hold = s.hold := rfl
@[simp] theorem State.withEngine_control (s : State) (x : PairEngine) : (s.withEngine x).control = s.control := rfl
@[simp] theorem State.withEngine_capture (s : State) (x : PairEngine) : (s.withEngine x).capture = s.capture := rfl
@[simp] theorem State.withEngine_epochs (s : State) (x : PairEngine) : (s.withEngine x).epochs = s.epochs := rfl
@[simp] theorem State.withEngine_engine (s : State) (x : PairEngine) : (s.withEngine x).engine = x := rfl
@[simp] theorem State.withEngine_solver (s : State) (x : PairEngine) : (s.withEngine x).solver = s.solver := rfl
@[simp] theorem State.withEngine_verdicts (s : State) (x : PairEngine) : (s.withEngine x).verdicts = s.verdicts := rfl
@[simp] theorem State.withEngine_roster (s : State) (x : PairEngine) : (s.withEngine x).roster = s.roster := rfl
@[simp] theorem State.withEngine_link (s : State) (x : PairEngine) : (s.withEngine x).link = s.link := rfl
@[simp] theorem State.withEngine_queue (s : State) (x : PairEngine) : (s.withEngine x).queue = s.queue := rfl
@[simp] theorem State.withEngine_pending (s : State) (x : PairEngine) : (s.withEngine x).pending = s.pending := rfl

/-! ### State.withSolver -/

@[simp] theorem State.withSolver_hold (s : State) (x : Solver) : (s.withSolver x).hold = s.hold := rfl
@[simp] theorem State.withSolver_control (s : State) (x : Solver) : (s.withSolver x).control = s.control := rfl
@[simp] theorem State.withSolver_capture (s : State) (x : Solver) : (s.withSolver x).capture = s.capture := rfl
@[simp] theorem State.withSolver_epochs (s : State) (x : Solver) : (s.withSolver x).epochs = s.epochs := rfl
@[simp] theorem State.withSolver_engine (s : State) (x : Solver) : (s.withSolver x).engine = s.engine := rfl
@[simp] theorem State.withSolver_solver (s : State) (x : Solver) : (s.withSolver x).solver = x := rfl
@[simp] theorem State.withSolver_verdicts (s : State) (x : Solver) : (s.withSolver x).verdicts = s.verdicts := rfl
@[simp] theorem State.withSolver_roster (s : State) (x : Solver) : (s.withSolver x).roster = s.roster := rfl
@[simp] theorem State.withSolver_link (s : State) (x : Solver) : (s.withSolver x).link = s.link := rfl
@[simp] theorem State.withSolver_queue (s : State) (x : Solver) : (s.withSolver x).queue = s.queue := rfl
@[simp] theorem State.withSolver_pending (s : State) (x : Solver) : (s.withSolver x).pending = s.pending := rfl

/-! ### State.withVerdicts -/

@[simp] theorem State.withVerdicts_hold (s : State) (x : VerdictUnit) : (s.withVerdicts x).hold = s.hold := rfl
@[simp] theorem State.withVerdicts_control (s : State) (x : VerdictUnit) : (s.withVerdicts x).control = s.control := rfl
@[simp] theorem State.withVerdicts_capture (s : State) (x : VerdictUnit) : (s.withVerdicts x).capture = s.capture := rfl
@[simp] theorem State.withVerdicts_epochs (s : State) (x : VerdictUnit) : (s.withVerdicts x).epochs = s.epochs := rfl
@[simp] theorem State.withVerdicts_engine (s : State) (x : VerdictUnit) : (s.withVerdicts x).engine = s.engine := rfl
@[simp] theorem State.withVerdicts_solver (s : State) (x : VerdictUnit) : (s.withVerdicts x).solver = s.solver := rfl
@[simp] theorem State.withVerdicts_verdicts (s : State) (x : VerdictUnit) : (s.withVerdicts x).verdicts = x := rfl
@[simp] theorem State.withVerdicts_roster (s : State) (x : VerdictUnit) : (s.withVerdicts x).roster = s.roster := rfl
@[simp] theorem State.withVerdicts_link (s : State) (x : VerdictUnit) : (s.withVerdicts x).link = s.link := rfl
@[simp] theorem State.withVerdicts_queue (s : State) (x : VerdictUnit) : (s.withVerdicts x).queue = s.queue := rfl
@[simp] theorem State.withVerdicts_pending (s : State) (x : VerdictUnit) : (s.withVerdicts x).pending = s.pending := rfl

/-! ### State.withRoster -/

@[simp] theorem State.withRoster_hold (s : State) (x : List RosterEntry) : (s.withRoster x).hold = s.hold := rfl
@[simp] theorem State.withRoster_control (s : State) (x : List RosterEntry) : (s.withRoster x).control = s.control := rfl
@[simp] theorem State.withRoster_capture (s : State) (x : List RosterEntry) : (s.withRoster x).capture = s.capture := rfl
@[simp] theorem State.withRoster_epochs (s : State) (x : List RosterEntry) : (s.withRoster x).epochs = s.epochs := rfl
@[simp] theorem State.withRoster_engine (s : State) (x : List RosterEntry) : (s.withRoster x).engine = s.engine := rfl
@[simp] theorem State.withRoster_solver (s : State) (x : List RosterEntry) : (s.withRoster x).solver = s.solver := rfl
@[simp] theorem State.withRoster_verdicts (s : State) (x : List RosterEntry) : (s.withRoster x).verdicts = s.verdicts := rfl
@[simp] theorem State.withRoster_roster (s : State) (x : List RosterEntry) : (s.withRoster x).roster = x := rfl
@[simp] theorem State.withRoster_link (s : State) (x : List RosterEntry) : (s.withRoster x).link = s.link := rfl
@[simp] theorem State.withRoster_queue (s : State) (x : List RosterEntry) : (s.withRoster x).queue = s.queue := rfl
@[simp] theorem State.withRoster_pending (s : State) (x : List RosterEntry) : (s.withRoster x).pending = s.pending := rfl

/-! ### State.withLink -/

@[simp] theorem State.withLink_hold (s : State) (x : Link) : (s.withLink x).hold = s.hold := rfl
@[simp] theorem State.withLink_control (s : State) (x : Link) : (s.withLink x).control = s.control := rfl
@[simp] theorem State.withLink_capture (s : State) (x : Link) : (s.withLink x).capture = s.capture := rfl
@[simp] theorem State.withLink_epochs (s : State) (x : Link) : (s.withLink x).epochs = s.epochs := rfl
@[simp] theorem State.withLink_engine (s : State) (x : Link) : (s.withLink x).engine = s.engine := rfl
@[simp] theorem State.withLink_solver (s : State) (x : Link) : (s.withLink x).solver = s.solver := rfl
@[simp] theorem State.withLink_verdicts (s : State) (x : Link) : (s.withLink x).verdicts = s.verdicts := rfl
@[simp] theorem State.withLink_roster (s : State) (x : Link) : (s.withLink x).roster = s.roster := rfl
@[simp] theorem State.withLink_link (s : State) (x : Link) : (s.withLink x).link = x := rfl
@[simp] theorem State.withLink_queue (s : State) (x : Link) : (s.withLink x).queue = s.queue := rfl
@[simp] theorem State.withLink_pending (s : State) (x : Link) : (s.withLink x).pending = s.pending := rfl

/-! ### State.withQueue -/

@[simp] theorem State.withQueue_hold (s : State) (x : Queue) : (s.withQueue x).hold = s.hold := rfl
@[simp] theorem State.withQueue_control (s : State) (x : Queue) : (s.withQueue x).control = s.control := rfl
@[simp] theorem State.withQueue_capture (s : State) (x : Queue) : (s.withQueue x).capture = s.capture := rfl
@[simp] theorem State.withQueue_epochs (s : State) (x : Queue) : (s.withQueue x).epochs = s.epochs := rfl
@[simp] theorem State.withQueue_engine (s : State) (x : Queue) : (s.withQueue x).engine = s.engine := rfl
@[simp] theorem State.withQueue_solver (s : State) (x : Queue) : (s.withQueue x).solver = s.solver := rfl
@[simp] theorem State.withQueue_verdicts (s : State) (x : Queue) : (s.withQueue x).verdicts = s.verdicts := rfl
@[simp] theorem State.withQueue_roster (s : State) (x : Queue) : (s.withQueue x).roster = s.roster := rfl
@[simp] theorem State.withQueue_link (s : State) (x : Queue) : (s.withQueue x).link = s.link := rfl
@[simp] theorem State.withQueue_queue (s : State) (x : Queue) : (s.withQueue x).queue = x := rfl
@[simp] theorem State.withQueue_pending (s : State) (x : Queue) : (s.withQueue x).pending = s.pending := rfl

/-! ### State.withPending -/

@[simp] theorem State.withPending_hold (s : State) (x : List Instr) : (s.withPending x).hold = s.hold := rfl
@[simp] theorem State.withPending_control (s : State) (x : List Instr) : (s.withPending x).control = s.control := rfl
@[simp] theorem State.withPending_capture (s : State) (x : List Instr) : (s.withPending x).capture = s.capture := rfl
@[simp] theorem State.withPending_epochs (s : State) (x : List Instr) : (s.withPending x).epochs = s.epochs := rfl
@[simp] theorem State.withPending_engine (s : State) (x : List Instr) : (s.withPending x).engine = s.engine := rfl
@[simp] theorem State.withPending_solver (s : State) (x : List Instr) : (s.withPending x).solver = s.solver := rfl
@[simp] theorem State.withPending_verdicts (s : State) (x : List Instr) : (s.withPending x).verdicts = s.verdicts := rfl
@[simp] theorem State.withPending_roster (s : State) (x : List Instr) : (s.withPending x).roster = s.roster := rfl
@[simp] theorem State.withPending_link (s : State) (x : List Instr) : (s.withPending x).link = s.link := rfl
@[simp] theorem State.withPending_queue (s : State) (x : List Instr) : (s.withPending x).queue = s.queue := rfl
@[simp] theorem State.withPending_pending (s : State) (x : List Instr) : (s.withPending x).pending = x := rfl

end Sys2Proof.Machine
end

