-- ==== Sys2Proof/Laws/Frames.lean ====
section
/-! SUPPORT. What each shared operation leaves unchanged: the blocks its rule does not name. -/

namespace Sys2Proof.Machine

/-- What each step of a fold keeps, the fold keeps. -/
theorem foldl_keeps {α β γ : Type} (p : β → γ) (f : β → α → β) (h : ∀ b a, p (f b a) = p b) (l : List α) :
    ∀ b, p (l.foldl f b) = p b := by
  induction l with
  | nil => intro b; rfl
  | cons a l ih => intro b; rw [List.foldl_cons, ih, h]

/-! ### Events, PRESENCE occasions, void reasons -/

@[simp] theorem State.raise_frame (s : State) (e : Event) :
    (s.raise e).hold = s.hold ∧ (s.raise e).control = s.control ∧ (s.raise e).capture = s.capture
    ∧ (s.raise e).epochs = s.epochs ∧ (s.raise e).engine = s.engine ∧ (s.raise e).solver = s.solver
    ∧ (s.raise e).roster = s.roster ∧ (s.raise e).link = s.link ∧ (s.raise e).queue = s.queue
    ∧ (s.raise e).pending = s.pending := by
  simp [State.raise]
@[simp] theorem State.presenceDue_frame (s : State) :
    s.presenceDue.hold = s.hold ∧ s.presenceDue.capture = s.capture ∧ s.presenceDue.epochs = s.epochs
    ∧ s.presenceDue.engine = s.engine ∧ s.presenceDue.solver = s.solver
    ∧ s.presenceDue.verdicts = s.verdicts ∧ s.presenceDue.roster = s.roster ∧ s.presenceDue.link = s.link
    ∧ s.presenceDue.queue = s.queue ∧ s.presenceDue.pending = s.pending := by
  simp [State.presenceDue]
@[simp] theorem State.dutChanged_frame (s : State) :
    s.dutChanged.hold = s.hold ∧ s.dutChanged.capture = s.capture ∧ s.dutChanged.epochs = s.epochs
    ∧ s.dutChanged.engine = s.engine ∧ s.dutChanged.solver = s.solver ∧ s.dutChanged.roster = s.roster
    ∧ s.dutChanged.link = s.link ∧ s.dutChanged.queue = s.queue ∧ s.dutChanged.pending = s.pending := by
  simp [State.dutChanged]
@[simp] theorem State.runMissed_frame (s : State) :
    s.runMissed.hold = s.hold ∧ s.runMissed.capture = s.capture ∧ s.runMissed.epochs = s.epochs
    ∧ s.runMissed.engine = s.engine ∧ s.runMissed.solver = s.solver ∧ s.runMissed.roster = s.roster
    ∧ s.runMissed.link = s.link ∧ s.runMissed.queue = s.queue ∧ s.runMissed.pending = s.pending := by
  unfold State.runMissed
  split <;> simp
@[simp] theorem State.voidCapture_frame (s : State) (r : VoidReason) :
    (s.voidCapture r).hold = s.hold ∧ (s.voidCapture r).control = s.control
    ∧ (s.voidCapture r).capture = s.capture ∧ (s.voidCapture r).engine = s.engine
    ∧ (s.voidCapture r).solver = s.solver ∧ (s.voidCapture r).verdicts = s.verdicts
    ∧ (s.voidCapture r).roster = s.roster ∧ (s.voidCapture r).link = s.link
    ∧ (s.voidCapture r).queue = s.queue ∧ (s.voidCapture r).pending = s.pending := by
  simp [State.voidCapture]
/-! ### The outgoing queue -/

@[simp] theorem State.onSlot_frame (s : State) (k : SlotKind) (f : Slot → LinkCounts → Slot × LinkCounts) :
    (s.onSlot k f).hold = s.hold ∧ (s.onSlot k f).control = s.control ∧ (s.onSlot k f).capture = s.capture
    ∧ (s.onSlot k f).epochs = s.epochs ∧ (s.onSlot k f).engine = s.engine ∧ (s.onSlot k f).solver = s.solver
    ∧ (s.onSlot k f).verdicts = s.verdicts ∧ (s.onSlot k f).roster = s.roster
    ∧ (s.onSlot k f).pending = s.pending := by
  simp [State.onSlot]
@[simp] theorem State.beginField_frame (s : State) :
    s.beginField.hold = s.hold ∧ s.beginField.control = s.control ∧ s.beginField.capture = s.capture
    ∧ s.beginField.epochs = s.epochs ∧ s.beginField.engine = s.engine ∧ s.beginField.solver = s.solver
    ∧ s.beginField.verdicts = s.verdicts ∧ s.beginField.roster = s.roster ∧ s.beginField.queue = s.queue
    ∧ s.beginField.pending = s.pending := by
  simp [State.beginField]
@[simp] theorem State.contendIfQuiet_frame (s : State) :
    s.contendIfQuiet.hold = s.hold ∧ s.contendIfQuiet.control = s.control
    ∧ s.contendIfQuiet.capture = s.capture ∧ s.contendIfQuiet.epochs = s.epochs
    ∧ s.contendIfQuiet.engine = s.engine ∧ s.contendIfQuiet.solver = s.solver
    ∧ s.contendIfQuiet.verdicts = s.verdicts ∧ s.contendIfQuiet.roster = s.roster
    ∧ s.contendIfQuiet.queue = s.queue ∧ s.contendIfQuiet.pending = s.pending := by
  unfold State.contendIfQuiet
  split <;> simp
@[simp] theorem State.offer_frame (s : State) (k : SlotKind) (r : Record) :
    (s.offer k r).hold = s.hold ∧ (s.offer k r).control = s.control ∧ (s.offer k r).capture = s.capture
    ∧ (s.offer k r).epochs = s.epochs ∧ (s.offer k r).engine = s.engine ∧ (s.offer k r).solver = s.solver
    ∧ (s.offer k r).verdicts = s.verdicts ∧ (s.offer k r).roster = s.roster
    ∧ (s.offer k r).pending = s.pending := by
  unfold State.offer
  split <;> simp
@[simp] theorem State.settlePresence_frame (s : State) :
    s.settlePresence.hold = s.hold ∧ s.settlePresence.capture = s.capture
    ∧ s.settlePresence.epochs = s.epochs ∧ s.settlePresence.engine = s.engine
    ∧ s.settlePresence.solver = s.solver ∧ s.settlePresence.verdicts = s.verdicts
    ∧ s.settlePresence.roster = s.roster ∧ s.settlePresence.pending = s.pending := by
  unfold State.settlePresence
  split
  · simp only []; split <;> simp
  · simp
@[simp] theorem State.beginRecord_frame (s : State) (k : SlotKind) :
    (s.beginRecord k).hold = s.hold ∧ (s.beginRecord k).control = s.control
    ∧ (s.beginRecord k).capture = s.capture ∧ (s.beginRecord k).epochs = s.epochs
    ∧ (s.beginRecord k).engine = s.engine ∧ (s.beginRecord k).solver = s.solver
    ∧ (s.beginRecord k).roster = s.roster ∧ (s.beginRecord k).pending = s.pending := by
  unfold State.beginRecord
  split
  · simp only []; split <;> simp
  · simp
@[simp] theorem State.senderComplete_frame (s : State) (k : SlotKind) :
    (s.senderComplete k).hold = s.hold ∧ (s.senderComplete k).control = s.control
    ∧ (s.senderComplete k).capture = s.capture ∧ (s.senderComplete k).epochs = s.epochs
    ∧ (s.senderComplete k).engine = s.engine ∧ (s.senderComplete k).solver = s.solver
    ∧ (s.senderComplete k).roster = s.roster ∧ (s.senderComplete k).pending = s.pending := by
  unfold State.senderComplete
  simp only []
  split <;> simp
@[simp] theorem State.delivered_frame (s : State) (k : SlotKind) (i : Nat) :
    (s.delivered k i).hold = s.hold ∧ (s.delivered k i).control = s.control
    ∧ (s.delivered k i).capture = s.capture ∧ (s.delivered k i).epochs = s.epochs
    ∧ (s.delivered k i).engine = s.engine ∧ (s.delivered k i).solver = s.solver
    ∧ (s.delivered k i).roster = s.roster ∧ (s.delivered k i).pending = s.pending := by
  unfold State.delivered
  split <;> simp
@[simp] theorem State.issueClear_frame (s : State) (k : SlotKind) (i : Nat) :
    (s.issueClear k i).hold = s.hold ∧ (s.issueClear k i).control = s.control
    ∧ (s.issueClear k i).capture = s.capture ∧ (s.issueClear k i).epochs = s.epochs
    ∧ (s.issueClear k i).engine = s.engine ∧ (s.issueClear k i).solver = s.solver
    ∧ (s.issueClear k i).roster = s.roster ∧ (s.issueClear k i).queue = s.queue
    ∧ (s.issueClear k i).pending = s.pending := by
  unfold State.issueClear
  simp only []
  split <;> simp
/-! ### The roster -/

@[simp] theorem State.onPeer_frame (s : State) (j : Nat) (f : RosterEntry → RosterEntry) :
    (s.onPeer j f).hold = s.hold ∧ (s.onPeer j f).control = s.control ∧ (s.onPeer j f).capture = s.capture
    ∧ (s.onPeer j f).epochs = s.epochs ∧ (s.onPeer j f).engine = s.engine ∧ (s.onPeer j f).solver = s.solver
    ∧ (s.onPeer j f).verdicts = s.verdicts ∧ (s.onPeer j f).link = s.link ∧ (s.onPeer j f).queue = s.queue
    ∧ (s.onPeer j f).pending = s.pending := by
  unfold State.onPeer
  split <;> simp
@[simp] theorem State.hear_frame (s : State) (h : Header) :
    (s.hear h).hold = s.hold ∧ (s.hear h).control = s.control ∧ (s.hear h).capture = s.capture
    ∧ (s.hear h).epochs = s.epochs ∧ (s.hear h).engine = s.engine ∧ (s.hear h).solver = s.solver
    ∧ (s.hear h).verdicts = s.verdicts ∧ (s.hear h).link = s.link ∧ (s.hear h).queue = s.queue
    ∧ (s.hear h).pending = s.pending := by
  simp [State.hear]
@[simp] theorem State.recheckDigests_frame (s : State) :
    s.recheckDigests.hold = s.hold ∧ s.recheckDigests.control = s.control
    ∧ s.recheckDigests.capture = s.capture ∧ s.recheckDigests.epochs = s.epochs
    ∧ s.recheckDigests.engine = s.engine ∧ s.recheckDigests.solver = s.solver
    ∧ s.recheckDigests.verdicts = s.verdicts ∧ s.recheckDigests.link = s.link
    ∧ s.recheckDigests.queue = s.queue ∧ s.recheckDigests.pending = s.pending := by
  simp [State.recheckDigests]
@[simp] theorem State.countBroken_frame (s : State) (j : Nat) :
    (s.countBroken j).hold = s.hold ∧ (s.countBroken j).control = s.control
    ∧ (s.countBroken j).capture = s.capture ∧ (s.countBroken j).epochs = s.epochs
    ∧ (s.countBroken j).engine = s.engine ∧ (s.countBroken j).solver = s.solver
    ∧ (s.countBroken j).verdicts = s.verdicts ∧ (s.countBroken j).link = s.link
    ∧ (s.countBroken j).queue = s.queue ∧ (s.countBroken j).pending = s.pending := by
  simp [State.countBroken]
@[simp] theorem State.countLate_frame (s : State) (j : Nat) :
    (s.countLate j).hold = s.hold ∧ (s.countLate j).control = s.control
    ∧ (s.countLate j).capture = s.capture ∧ (s.countLate j).epochs = s.epochs
    ∧ (s.countLate j).engine = s.engine ∧ (s.countLate j).solver = s.solver
    ∧ (s.countLate j).verdicts = s.verdicts ∧ (s.countLate j).link = s.link
    ∧ (s.countLate j).queue = s.queue ∧ (s.countLate j).pending = s.pending := by
  simp [State.countLate]
@[simp] theorem State.countDuplicate_frame (s : State) (j : Nat) :
    (s.countDuplicate j).hold = s.hold ∧ (s.countDuplicate j).control = s.control
    ∧ (s.countDuplicate j).capture = s.capture ∧ (s.countDuplicate j).epochs = s.epochs
    ∧ (s.countDuplicate j).engine = s.engine ∧ (s.countDuplicate j).solver = s.solver
    ∧ (s.countDuplicate j).verdicts = s.verdicts ∧ (s.countDuplicate j).link = s.link
    ∧ (s.countDuplicate j).queue = s.queue ∧ (s.countDuplicate j).pending = s.pending := by
  simp [State.countDuplicate]
@[simp] theorem State.notePresence_frame (s : State) (j : Nat) (b : PresenceBody) :
    (s.notePresence j b).hold = s.hold ∧ (s.notePresence j b).control = s.control
    ∧ (s.notePresence j b).capture = s.capture ∧ (s.notePresence j b).epochs = s.epochs
    ∧ (s.notePresence j b).engine = s.engine ∧ (s.notePresence j b).solver = s.solver
    ∧ (s.notePresence j b).verdicts = s.verdicts ∧ (s.notePresence j b).link = s.link
    ∧ (s.notePresence j b).queue = s.queue ∧ (s.notePresence j b).pending = s.pending := by
  simp [State.notePresence]
@[simp] theorem State.noteVerdict_frame (s : State) (h : Header) :
    (s.noteVerdict h).hold = s.hold ∧ (s.noteVerdict h).control = s.control
    ∧ (s.noteVerdict h).capture = s.capture ∧ (s.noteVerdict h).epochs = s.epochs
    ∧ (s.noteVerdict h).engine = s.engine ∧ (s.noteVerdict h).solver = s.solver
    ∧ (s.noteVerdict h).verdicts = s.verdicts ∧ (s.noteVerdict h).link = s.link
    ∧ (s.noteVerdict h).queue = s.queue ∧ (s.noteVerdict h).pending = s.pending := by
  simp [State.noteVerdict]
@[simp] theorem State.noteOtherRun_frame (s : State) (h : Header) :
    (s.noteOtherRun h).hold = s.hold ∧ (s.noteOtherRun h).capture = s.capture
    ∧ (s.noteOtherRun h).epochs = s.epochs ∧ (s.noteOtherRun h).engine = s.engine
    ∧ (s.noteOtherRun h).solver = s.solver ∧ (s.noteOtherRun h).roster = s.roster
    ∧ (s.noteOtherRun h).link = s.link ∧ (s.noteOtherRun h).queue = s.queue
    ∧ (s.noteOtherRun h).pending = s.pending := by
  unfold State.noteOtherRun
  split <;> simp
@[simp] theorem State.noteNamed_frame (s : State) (h : Header) (es : List SummaryEntry) :
    (s.noteNamed h es).hold = s.hold ∧ (s.noteNamed h es).control = s.control
    ∧ (s.noteNamed h es).capture = s.capture ∧ (s.noteNamed h es).epochs = s.epochs
    ∧ (s.noteNamed h es).engine = s.engine ∧ (s.noteNamed h es).solver = s.solver
    ∧ (s.noteNamed h es).verdicts = s.verdicts ∧ (s.noteNamed h es).link = s.link
    ∧ (s.noteNamed h es).queue = s.queue ∧ (s.noteNamed h es).pending = s.pending := by
  unfold State.noteNamed
  split
  · refine ⟨?_, ?_, ?_, ?_, ?_, ?_, ?_, ?_, ?_, ?_⟩ <;> exact foldl_keeps _ _ (fun b a => by simp) es s
  · simp
@[simp] theorem State.rosterDeadline_frame (s : State) (ps : List PairEntry) :
    (s.rosterDeadline ps).hold = s.hold ∧ (s.rosterDeadline ps).control = s.control
    ∧ (s.rosterDeadline ps).capture = s.capture ∧ (s.rosterDeadline ps).epochs = s.epochs
    ∧ (s.rosterDeadline ps).engine = s.engine ∧ (s.rosterDeadline ps).solver = s.solver
    ∧ (s.rosterDeadline ps).verdicts = s.verdicts ∧ (s.rosterDeadline ps).link = s.link
    ∧ (s.rosterDeadline ps).queue = s.queue ∧ (s.rosterDeadline ps).pending = s.pending := by
  simp [State.rosterDeadline]
@[simp] theorem State.rosterSolved_frame (s : State) (charged agreed : List Nat) :
    (s.rosterSolved charged agreed).hold = s.hold ∧ (s.rosterSolved charged agreed).control = s.control
    ∧ (s.rosterSolved charged agreed).capture = s.capture
    ∧ (s.rosterSolved charged agreed).epochs = s.epochs ∧ (s.rosterSolved charged agreed).engine = s.engine
    ∧ (s.rosterSolved charged agreed).solver = s.solver
    ∧ (s.rosterSolved charged agreed).verdicts = s.verdicts ∧ (s.rosterSolved charged agreed).link = s.link
    ∧ (s.rosterSolved charged agreed).queue = s.queue ∧ (s.rosterSolved charged agreed).pending = s.pending := by
  simp [State.rosterSolved]
/-! ### The pair engine -/

@[simp] theorem State.setExchangePair_frame (s : State) (j : Nat) (st : PairState) :
    (s.setExchangePair j st).hold = s.hold ∧ (s.setExchangePair j st).control = s.control
    ∧ (s.setExchangePair j st).capture = s.capture ∧ (s.setExchangePair j st).engine = s.engine
    ∧ (s.setExchangePair j st).solver = s.solver ∧ (s.setExchangePair j st).verdicts = s.verdicts
    ∧ (s.setExchangePair j st).roster = s.roster ∧ (s.setExchangePair j st).link = s.link
    ∧ (s.setExchangePair j st).queue = s.queue ∧ (s.setExchangePair j st).pending = s.pending := by
  simp [State.setExchangePair]
@[simp] theorem State.openPair_frame (s : State) (j : Nat) :
    (s.openPair j).hold = s.hold ∧ (s.openPair j).control = s.control ∧ (s.openPair j).capture = s.capture
    ∧ (s.openPair j).solver = s.solver ∧ (s.openPair j).verdicts = s.verdicts
    ∧ (s.openPair j).roster = s.roster ∧ (s.openPair j).link = s.link ∧ (s.openPair j).queue = s.queue
    ∧ (s.openPair j).pending = s.pending := by
  simp [State.openPair]
@[simp] theorem State.breakPair_frame (s : State) (j : Nat) :
    (s.breakPair j).hold = s.hold ∧ (s.breakPair j).control = s.control
    ∧ (s.breakPair j).capture = s.capture ∧ (s.breakPair j).solver = s.solver
    ∧ (s.breakPair j).verdicts = s.verdicts ∧ (s.breakPair j).roster = s.roster
    ∧ (s.breakPair j).link = s.link ∧ (s.breakPair j).queue = s.queue ∧ (s.breakPair j).pending = s.pending := by
  unfold State.breakPair
  split <;> simp
@[simp] theorem State.finishSelf_frame (s : State) :
    s.finishSelf.hold = s.hold ∧ s.finishSelf.control = s.control ∧ s.finishSelf.capture = s.capture
    ∧ s.finishSelf.solver = s.solver ∧ s.finishSelf.verdicts = s.verdicts ∧ s.finishSelf.roster = s.roster
    ∧ s.finishSelf.link = s.link ∧ s.finishSelf.queue = s.queue ∧ s.finishSelf.pending = s.pending := by
  unfold State.finishSelf
  split <;> simp
@[simp] theorem State.finishFrame_frame (s : State) :
    s.finishFrame.hold = s.hold ∧ s.finishFrame.control = s.control ∧ s.finishFrame.capture = s.capture
    ∧ s.finishFrame.solver = s.solver ∧ s.finishFrame.verdicts = s.verdicts ∧ s.finishFrame.link = s.link
    ∧ s.finishFrame.queue = s.queue ∧ s.finishFrame.pending = s.pending := by
  unfold State.finishFrame
  repeat' split
  all_goals simp
/-! ### Record assembly -/

@[simp] theorem State.breakOpen_frame (s : State) :
    s.breakOpen.hold = s.hold ∧ s.breakOpen.control = s.control ∧ s.breakOpen.capture = s.capture
    ∧ s.breakOpen.solver = s.solver ∧ s.breakOpen.verdicts = s.verdicts ∧ s.breakOpen.queue = s.queue
    ∧ s.breakOpen.pending = s.pending := by
  unfold State.breakOpen
  split
  · simp
  · simp only []; repeat' split
    all_goals simp
@[simp] theorem State.afterEntry_frame (s : State) (e : FifoEntry) :
    (s.afterEntry e).hold = s.hold ∧ (s.afterEntry e).control = s.control
    ∧ (s.afterEntry e).capture = s.capture ∧ (s.afterEntry e).solver = s.solver
    ∧ (s.afterEntry e).verdicts = s.verdicts ∧ (s.afterEntry e).queue = s.queue
    ∧ (s.afterEntry e).pending = s.pending := by
  unfold State.afterEntry
  split <;> simp
@[simp] theorem State.popFifo_frame (s : State) :
    s.popFifo.hold = s.hold ∧ s.popFifo.control = s.control ∧ s.popFifo.capture = s.capture
    ∧ s.popFifo.epochs = s.epochs ∧ s.popFifo.engine = s.engine ∧ s.popFifo.solver = s.solver
    ∧ s.popFifo.verdicts = s.verdicts ∧ s.popFifo.roster = s.roster ∧ s.popFifo.queue = s.queue
    ∧ s.popFifo.pending = s.pending := by
  simp [State.popFifo]
@[simp] theorem State.discardFirst_frame (s : State) (o : OpenRecord) (b : Bool) :
    (s.discardFirst o b).hold = s.hold ∧ (s.discardFirst o b).control = s.control
    ∧ (s.discardFirst o b).capture = s.capture ∧ (s.discardFirst o b).solver = s.solver
    ∧ (s.discardFirst o b).verdicts = s.verdicts ∧ (s.discardFirst o b).queue = s.queue
    ∧ (s.discardFirst o b).pending = s.pending := by
  unfold State.discardFirst
  simp only []
  repeat' split
  all_goals simp
@[simp] theorem State.abandonOpen_frame (s : State) (b : Bool) :
    (s.abandonOpen b).hold = s.hold ∧ (s.abandonOpen b).control = s.control
    ∧ (s.abandonOpen b).capture = s.capture ∧ (s.abandonOpen b).solver = s.solver
    ∧ (s.abandonOpen b).verdicts = s.verdicts ∧ (s.abandonOpen b).queue = s.queue
    ∧ (s.abandonOpen b).pending = s.pending := by
  unfold State.abandonOpen
  repeat' split
  all_goals simp
@[simp] theorem State.giveOn_frame (s : State) (h : HandOn) :
    (s.giveOn h).hold = s.hold ∧ (s.giveOn h).control = s.control
    ∧ (s.giveOn h).capture = s.capture ∧ (s.giveOn h).solver = s.solver
    ∧ (s.giveOn h).verdicts = s.verdicts ∧ (s.giveOn h).queue = s.queue
    ∧ (s.giveOn h).pending = s.pending := by
  simp [State.giveOn]
@[simp] theorem State.noteWinner_frame (s : State) (j : Nat) :
    (s.noteWinner j).hold = s.hold ∧ (s.noteWinner j).control = s.control
    ∧ (s.noteWinner j).capture = s.capture ∧ (s.noteWinner j).epochs = s.epochs
    ∧ (s.noteWinner j).engine = s.engine ∧ (s.noteWinner j).solver = s.solver
    ∧ (s.noteWinner j).verdicts = s.verdicts ∧ (s.noteWinner j).roster = s.roster
    ∧ (s.noteWinner j).queue = s.queue ∧ (s.noteWinner j).pending = s.pending := by
  unfold State.noteWinner
  split <;> simp
@[simp] theorem State.completeBuffered_frame (s : State) (bs : List Byte) :
    (s.completeBuffered bs).hold = s.hold ∧ (s.completeBuffered bs).control = s.control
    ∧ (s.completeBuffered bs).capture = s.capture ∧ (s.completeBuffered bs).solver = s.solver
    ∧ (s.completeBuffered bs).verdicts = s.verdicts ∧ (s.completeBuffered bs).queue = s.queue
    ∧ (s.completeBuffered bs).pending = s.pending := by
  unfold State.completeBuffered
  simp only []
  repeat' split
  all_goals simp
@[simp] theorem State.completeDiscarded_frame (s : State) (o : OpenRecord) (n : Nat) :
    (s.completeDiscarded o n).hold = s.hold ∧ (s.completeDiscarded o n).control = s.control
    ∧ (s.completeDiscarded o n).capture = s.capture ∧ (s.completeDiscarded o n).solver = s.solver
    ∧ (s.completeDiscarded o n).verdicts = s.verdicts ∧ (s.completeDiscarded o n).queue = s.queue
    ∧ (s.completeDiscarded o n).pending = s.pending := by
  unfold State.completeDiscarded
  simp only []
  repeat' split
  all_goals simp
@[simp] theorem State.acceptNext_frame (s : State) (o : OpenRecord) (f : GoodFrame) :
    (s.acceptNext o f).hold = s.hold ∧ (s.acceptNext o f).control = s.control
    ∧ (s.acceptNext o f).capture = s.capture ∧ (s.acceptNext o f).solver = s.solver
    ∧ (s.acceptNext o f).verdicts = s.verdicts ∧ (s.acceptNext o f).queue = s.queue
    ∧ (s.acceptNext o f).pending = s.pending := by
  unfold State.acceptNext
  repeat' split
  all_goals simp
@[simp] theorem State.acceptFirst_frame (s : State) (f : GoodFrame) :
    (s.acceptFirst f).1.hold = s.hold ∧ (s.acceptFirst f).1.control = s.control
    ∧ (s.acceptFirst f).1.capture = s.capture ∧ (s.acceptFirst f).1.solver = s.solver
    ∧ (s.acceptFirst f).1.verdicts = s.verdicts ∧ (s.acceptFirst f).1.queue = s.queue
    ∧ (s.acceptFirst f).1.pending = s.pending := by
  unfold State.acceptFirst
  simp only []
  repeat' split
  all_goals simp
/-- Record assembly reaches the epoch controller's pair table, the pair engine, the roster and the link
controller, and nothing else. -/
theorem drainFrom_frame (es : List FifoEntry) : ∀ s : State,
    (drainFrom es s).hold = s.hold ∧ (drainFrom es s).control = s.control
    ∧ (drainFrom es s).capture = s.capture ∧ (drainFrom es s).solver = s.solver
    ∧ (drainFrom es s).verdicts = s.verdicts ∧ (drainFrom es s).queue = s.queue
    ∧ (drainFrom es s).pending = s.pending := by
  induction es with
  | nil => intro s; simp [drainFrom]
  | cons e rest ih =>
    intro s
    unfold drainFrom
    split
    · simp
    · split
      · simp [ih]
      · split
        · simp only [ih]; split <;> simp
        · split <;> rename_i t h <;>
            obtain rfl : (s.acceptFirst _).1 = t := congrArg Prod.fst h
          · simp
          · simp [ih]
        all_goals
          split
          · simp [ih]
          · split <;> simp [ih]
@[simp] theorem State.drain_frame (s : State) :
    s.drain.hold = s.hold ∧ s.drain.control = s.control ∧ s.drain.capture = s.capture
    ∧ s.drain.solver = s.solver ∧ s.drain.verdicts = s.verdicts ∧ s.drain.queue = s.queue
    ∧ s.drain.pending = s.pending := drainFrom_frame _ s

@[simp] theorem State.emptyFifo_frame (s : State) :
    s.emptyFifo.hold = s.hold ∧ s.emptyFifo.control = s.control ∧ s.emptyFifo.capture = s.capture
    ∧ s.emptyFifo.solver = s.solver ∧ s.emptyFifo.verdicts = s.verdicts ∧ s.emptyFifo.queue = s.queue
    ∧ s.emptyFifo.pending = s.pending := by
  simp [State.emptyFifo]
@[simp] theorem State.holdOpen_frame (s : State) (g : Holding) :
    (s.holdOpen g).hold = s.hold ∧ (s.holdOpen g).control = s.control ∧ (s.holdOpen g).capture = s.capture
    ∧ (s.holdOpen g).epochs = s.epochs ∧ (s.holdOpen g).engine = s.engine ∧ (s.holdOpen g).solver = s.solver
    ∧ (s.holdOpen g).verdicts = s.verdicts ∧ (s.holdOpen g).roster = s.roster
    ∧ (s.holdOpen g).queue = s.queue ∧ (s.holdOpen g).pending = s.pending := by
  unfold State.holdOpen
  split <;> simp
/-! ### Verdicts, closes, the end of a run -/

@[simp] theorem State.recordHistory_frame (s : State) (n : Nat) (b : VerdictBody) :
    (s.recordHistory n b).hold = s.hold ∧ (s.recordHistory n b).control = s.control
    ∧ (s.recordHistory n b).capture = s.capture ∧ (s.recordHistory n b).epochs = s.epochs
    ∧ (s.recordHistory n b).engine = s.engine ∧ (s.recordHistory n b).solver = s.solver
    ∧ (s.recordHistory n b).roster = s.roster ∧ (s.recordHistory n b).link = s.link
    ∧ (s.recordHistory n b).queue = s.queue ∧ (s.recordHistory n b).pending = s.pending := by
  simp [State.recordHistory]
@[simp] theorem State.noteFail_frame (s : State) (v : Verdict) :
    (s.noteFail v).hold = s.hold ∧ (s.noteFail v).control = s.control ∧ (s.noteFail v).capture = s.capture
    ∧ (s.noteFail v).epochs = s.epochs ∧ (s.noteFail v).engine = s.engine ∧ (s.noteFail v).solver = s.solver
    ∧ (s.noteFail v).roster = s.roster ∧ (s.noteFail v).link = s.link ∧ (s.noteFail v).queue = s.queue
    ∧ (s.noteFail v).pending = s.pending := by
  unfold State.noteFail
  split <;> simp
@[simp] theorem State.noteNewest_frame (s : State) (v : Verdict) :
    (s.noteNewest v).hold = s.hold ∧ (s.noteNewest v).control = s.control
    ∧ (s.noteNewest v).capture = s.capture ∧ (s.noteNewest v).epochs = s.epochs
    ∧ (s.noteNewest v).engine = s.engine ∧ (s.noteNewest v).solver = s.solver
    ∧ (s.noteNewest v).roster = s.roster ∧ (s.noteNewest v).link = s.link ∧ (s.noteNewest v).queue = s.queue
    ∧ (s.noteNewest v).pending = s.pending := by
  unfold State.noteNewest
  simp only []
  split <;> simp
@[simp] theorem State.handleFinding_frame (s : State) (u : Setup) (r : SolveResult) (f : Finding) :
    (s.handleFinding u r f).hold = s.hold ∧ (s.handleFinding u r f).control = s.control
    ∧ (s.handleFinding u r f).capture = s.capture ∧ (s.handleFinding u r f).epochs = s.epochs
    ∧ (s.handleFinding u r f).engine = s.engine ∧ (s.handleFinding u r f).solver = s.solver
    ∧ (s.handleFinding u r f).roster = s.roster ∧ (s.handleFinding u r f).pending = s.pending := by
  simp [State.handleFinding]
@[simp] theorem State.handleResult_frame (s : State) (r : SolveResult) :
    (s.handleResult r).hold = s.hold ∧ (s.handleResult r).control = s.control
    ∧ (s.handleResult r).capture = s.capture ∧ (s.handleResult r).epochs = s.epochs
    ∧ (s.handleResult r).engine = s.engine ∧ (s.handleResult r).solver = s.solver
    ∧ (s.handleResult r).roster = s.roster ∧ (s.handleResult r).pending = s.pending := by
  unfold State.handleResult
  repeat' split
  all_goals simp
@[simp] theorem State.closeRun_frame (s : State) (d : Option DutState) :
    (s.closeRun d).hold = s.hold ∧ (s.closeRun d).control = s.control ∧ (s.closeRun d).capture = s.capture
    ∧ (s.closeRun d).epochs = s.epochs ∧ (s.closeRun d).engine = s.engine ∧ (s.closeRun d).solver = s.solver
    ∧ (s.closeRun d).roster = s.roster ∧ (s.closeRun d).pending = s.pending := by
  unfold State.closeRun
  simp only []
  split <;> simp
@[simp] theorem State.triggerSolve_frame (s : State) :
    s.triggerSolve.hold = s.hold ∧ s.triggerSolve.control = s.control ∧ s.triggerSolve.capture = s.capture
    ∧ s.triggerSolve.engine = s.engine ∧ s.triggerSolve.verdicts = s.verdicts
    ∧ s.triggerSolve.roster = s.roster ∧ s.triggerSolve.link = s.link ∧ s.triggerSolve.queue = s.queue
    ∧ s.triggerSolve.pending = s.pending := by
  unfold State.triggerSolve
  split <;> simp
@[simp] theorem State.testEarly_frame (s : State) :
    s.testEarly.hold = s.hold ∧ s.testEarly.control = s.control ∧ s.testEarly.capture = s.capture
    ∧ s.testEarly.engine = s.engine ∧ s.testEarly.verdicts = s.verdicts ∧ s.testEarly.roster = s.roster
    ∧ s.testEarly.link = s.link ∧ s.testEarly.queue = s.queue ∧ s.testEarly.pending = s.pending := by
  unfold State.testEarly
  repeat' split
  all_goals simp
@[simp] theorem State.stopCapture_frame (s : State) :
    s.stopCapture.hold = s.hold ∧ s.stopCapture.control = s.control ∧ s.stopCapture.epochs = s.epochs
    ∧ s.stopCapture.engine = s.engine ∧ s.stopCapture.solver = s.solver
    ∧ s.stopCapture.verdicts = s.verdicts ∧ s.stopCapture.roster = s.roster ∧ s.stopCapture.link = s.link
    ∧ s.stopCapture.queue = s.queue ∧ s.stopCapture.pending = s.pending := by
  simp [State.stopCapture]
@[simp] theorem State.abandonEpochs_frame (s : State) :
    s.abandonEpochs.hold = s.hold ∧ s.abandonEpochs.control = s.control
    ∧ s.abandonEpochs.capture = s.capture ∧ s.abandonEpochs.verdicts = s.verdicts
    ∧ s.abandonEpochs.roster = s.roster ∧ s.abandonEpochs.link = s.link ∧ s.abandonEpochs.queue = s.queue
    ∧ s.abandonEpochs.pending = s.pending := by
  simp [State.abandonEpochs]
@[simp] theorem State.handOver_frame (s : State) (c : Context) (xs : List Int) :
    (s.handOver c xs).hold = s.hold ∧ (s.handOver c xs).control = s.control
    ∧ (s.handOver c xs).epochs = s.epochs ∧ (s.handOver c xs).solver = s.solver
    ∧ (s.handOver c xs).verdicts = s.verdicts ∧ (s.handOver c xs).roster = s.roster
    ∧ (s.handOver c xs).pending = s.pending := by
  unfold State.handOver
  simp only []
  split <;> split <;> simp
@[simp] theorem State.summaryDeadline_frame (s : State) (n : Nat) :
    (s.summaryDeadline n).hold = s.hold ∧ (s.summaryDeadline n).control = s.control
    ∧ (s.summaryDeadline n).capture = s.capture ∧ (s.summaryDeadline n).engine = s.engine
    ∧ (s.summaryDeadline n).verdicts = s.verdicts ∧ (s.summaryDeadline n).roster = s.roster
    ∧ (s.summaryDeadline n).pending = s.pending := by
  unfold State.summaryDeadline
  simp only []
  split <;> simp
@[simp] theorem State.freezeExchange_frame (s : State) (c : Context) :
    (s.freezeExchange c).hold = s.hold ∧ (s.freezeExchange c).control = s.control
    ∧ (s.freezeExchange c).capture = s.capture ∧ (s.freezeExchange c).solver = s.solver
    ∧ (s.freezeExchange c).verdicts = s.verdicts ∧ (s.freezeExchange c).queue = s.queue
    ∧ (s.freezeExchange c).pending = s.pending := by
  unfold State.freezeExchange
  refine ⟨?_, ?_, ?_, ?_, ?_, ?_, ?_⟩ <;>
    simp only [State.withEngine_hold, State.withEngine_control, State.withEngine_capture,
      State.withEngine_solver, State.withEngine_verdicts, State.withEngine_queue, State.withEngine_pending,
      State.abandonOpen_frame] <;>
    exact (foldl_keeps _ _ (fun b a => by simp) _ _).trans rfl
@[simp] theorem State.enterSummaryWait_frame (s : State) :
    s.enterSummaryWait.hold = s.hold ∧ s.enterSummaryWait.control = s.control
    ∧ s.enterSummaryWait.capture = s.capture ∧ s.enterSummaryWait.engine = s.engine
    ∧ s.enterSummaryWait.verdicts = s.verdicts ∧ s.enterSummaryWait.roster = s.roster
    ∧ s.enterSummaryWait.link = s.link ∧ s.enterSummaryWait.queue = s.queue
    ∧ s.enterSummaryWait.pending = s.pending := by
  unfold State.enterSummaryWait
  split
  · simp
  · simp only []; split <;> simp
@[simp] theorem State.reportExchange_frame (s : State) :
    s.reportExchange.hold = s.hold ∧ s.reportExchange.control = s.control
    ∧ s.reportExchange.capture = s.capture ∧ s.reportExchange.epochs = s.epochs
    ∧ s.reportExchange.engine = s.engine ∧ s.reportExchange.solver = s.solver
    ∧ s.reportExchange.verdicts = s.verdicts ∧ s.reportExchange.pending = s.pending := by
  unfold State.reportExchange
  repeat' split
  all_goals simp
@[simp] theorem State.exchangeDeadline_frame (s : State) (n : Nat) :
    (s.exchangeDeadline n).hold = s.hold ∧ (s.exchangeDeadline n).control = s.control
    ∧ (s.exchangeDeadline n).capture = s.capture ∧ (s.exchangeDeadline n).verdicts = s.verdicts
    ∧ (s.exchangeDeadline n).pending = s.pending := by
  unfold State.exchangeDeadline
  simp only []
  repeat' split
  all_goals simp
@[simp] theorem State.enterExchange_frame (s : State) (c : Context) :
    (s.enterExchange c).hold = s.hold ∧ (s.enterExchange c).control = s.control
    ∧ (s.enterExchange c).capture = s.capture ∧ (s.enterExchange c).solver = s.solver
    ∧ (s.enterExchange c).verdicts = s.verdicts ∧ (s.enterExchange c).roster = s.roster
    ∧ (s.enterExchange c).link = s.link ∧ (s.enterExchange c).queue = s.queue
    ∧ (s.enterExchange c).pending = s.pending := by
  simp [State.enterExchange]
/-! ### Samples -/

@[simp] theorem State.beginBoundary_frame (s : State) (i : Nat) :
    (s.beginBoundary i).hold = s.hold ∧ (s.beginBoundary i).control = s.control
    ∧ (s.beginBoundary i).solver = s.solver ∧ (s.beginBoundary i).verdicts = s.verdicts
    ∧ (s.beginBoundary i).roster = s.roster ∧ (s.beginBoundary i).link = s.link
    ∧ (s.beginBoundary i).queue = s.queue ∧ (s.beginBoundary i).pending = s.pending := by
  unfold State.beginBoundary
  split <;> simp
@[simp] theorem State.setDut_frame (s : State) (d : DutState) :
    (s.setDut d).hold = s.hold ∧ (s.setDut d).epochs = s.epochs ∧ (s.setDut d).engine = s.engine
    ∧ (s.setDut d).solver = s.solver ∧ (s.setDut d).roster = s.roster ∧ (s.setDut d).link = s.link
    ∧ (s.setDut d).queue = s.queue ∧ (s.setDut d).pending = s.pending := by
  unfold State.setDut
  split <;> simp
@[simp] theorem State.loseDut_frame (s : State) (d : DutState) :
    (s.loseDut d).hold = s.hold ∧ (s.loseDut d).epochs = s.epochs ∧ (s.loseDut d).engine = s.engine
    ∧ (s.loseDut d).solver = s.solver ∧ (s.loseDut d).roster = s.roster ∧ (s.loseDut d).link = s.link
    ∧ (s.loseDut d).queue = s.queue ∧ (s.loseDut d).pending = s.pending := by
  simp [State.loseDut]
@[simp] theorem State.applyClass_frame (s : State) (u : Setup) (i : Nat) (t : Option Nat) (c : SampleClass) :
    (s.applyClass u i t c).hold = s.hold ∧ (s.applyClass u i t c).epochs = s.epochs
    ∧ (s.applyClass u i t c).engine = s.engine ∧ (s.applyClass u i t c).solver = s.solver
    ∧ (s.applyClass u i t c).roster = s.roster ∧ (s.applyClass u i t c).link = s.link
    ∧ (s.applyClass u i t c).queue = s.queue ∧ (s.applyClass u i t c).pending = s.pending := by
  unfold State.applyClass
  repeat' split
  all_goals simp
@[simp] theorem State.startDut_frame (s : State) (u : Setup) (t : Option Nat) :
    (s.startDut u t).hold = s.hold ∧ (s.startDut u t).control = s.control
    ∧ (s.startDut u t).epochs = s.epochs ∧ (s.startDut u t).engine = s.engine
    ∧ (s.startDut u t).solver = s.solver ∧ (s.startDut u t).verdicts = s.verdicts
    ∧ (s.startDut u t).roster = s.roster ∧ (s.startDut u t).link = s.link ∧ (s.startDut u t).queue = s.queue
    ∧ (s.startDut u t).pending = s.pending := by
  unfold State.startDut
  split <;> simp
@[simp] theorem State.settleAtBoundary_frame (s : State) (i : Nat) :
    (s.settleAtBoundary i).hold = s.hold ∧ (s.settleAtBoundary i).epochs = s.epochs
    ∧ (s.settleAtBoundary i).engine = s.engine ∧ (s.settleAtBoundary i).solver = s.solver
    ∧ (s.settleAtBoundary i).roster = s.roster ∧ (s.settleAtBoundary i).link = s.link
    ∧ (s.settleAtBoundary i).queue = s.queue ∧ (s.settleAtBoundary i).pending = s.pending := by
  unfold State.settleAtBoundary
  repeat' split
  all_goals simp
@[simp] theorem State.storeEntry_frame (s : State) (x : Int) :
    (s.storeEntry x).hold = s.hold ∧ (s.storeEntry x).control = s.control
    ∧ (s.storeEntry x).epochs = s.epochs ∧ (s.storeEntry x).engine = s.engine
    ∧ (s.storeEntry x).solver = s.solver ∧ (s.storeEntry x).verdicts = s.verdicts
    ∧ (s.storeEntry x).roster = s.roster ∧ (s.storeEntry x).link = s.link ∧ (s.storeEntry x).queue = s.queue
    ∧ (s.storeEntry x).pending = s.pending := by
  simp [State.storeEntry]
@[simp] theorem State.periodStep_frame (s : State) (a : Bool) (t : Timing) :
    (s.periodStep a t).hold = s.hold ∧ (s.periodStep a t).control = s.control
    ∧ (s.periodStep a t).capture = s.capture ∧ (s.periodStep a t).solver = s.solver
    ∧ (s.periodStep a t).verdicts = s.verdicts ∧ (s.periodStep a t).roster = s.roster
    ∧ (s.periodStep a t).link = s.link ∧ (s.periodStep a t).queue = s.queue
    ∧ (s.periodStep a t).pending = s.pending := by
  unfold State.periodStep
  repeat' split
  all_goals simp
@[simp] theorem State.slip_frame (s : State) :
    s.slip.hold = s.hold ∧ s.slip.control = s.control ∧ s.slip.engine = s.engine ∧ s.slip.solver = s.solver
    ∧ s.slip.roster = s.roster ∧ s.slip.link = s.link ∧ s.slip.queue = s.queue ∧ s.slip.pending = s.pending := by
  unfold State.slip
  simp only []
  split <;> simp
@[simp] theorem State.slipStep_frame (s : State) (u : Setup) (b : Option DutState) (i : Nat) (a : Bool) :
    (s.slipStep u b i a).hold = s.hold ∧ (s.slipStep u b i a).control = s.control
    ∧ (s.slipStep u b i a).engine = s.engine ∧ (s.slipStep u b i a).solver = s.solver
    ∧ (s.slipStep u b i a).roster = s.roster ∧ (s.slipStep u b i a).link = s.link
    ∧ (s.slipStep u b i a).queue = s.queue ∧ (s.slipStep u b i a).pending = s.pending := by
  unfold State.slipStep
  simp only []
  split <;> simp
@[simp] theorem State.classStep_frame (s : State) (u : Setup) (i : Nat) (a : Bool) (n : Nat) (t : Timing) :
    (s.classStep u i a n t).hold = s.hold ∧ (s.classStep u i a n t).engine = s.engine
    ∧ (s.classStep u i a n t).solver = s.solver ∧ (s.classStep u i a n t).roster = s.roster
    ∧ (s.classStep u i a n t).link = s.link ∧ (s.classStep u i a n t).queue = s.queue
    ∧ (s.classStep u i a n t).pending = s.pending := by
  unfold State.classStep
  simp only []
  repeat' split
  all_goals simp
@[simp] theorem State.voidStep_frame (s : State) :
    s.voidStep.hold = s.hold ∧ s.voidStep.control = s.control ∧ s.voidStep.capture = s.capture
    ∧ s.voidStep.engine = s.engine ∧ s.voidStep.solver = s.solver ∧ s.voidStep.verdicts = s.verdicts
    ∧ s.voidStep.roster = s.roster ∧ s.voidStep.link = s.link ∧ s.voidStep.queue = s.queue
    ∧ s.voidStep.pending = s.pending := by
  unfold State.voidStep
  split <;> simp
@[simp] theorem State.measureStep_frame (s : State) (u : Setup) (b : Option DutState) (i : Nat) (a : Bool)
    (t : Timing) :
    (s.measureStep u b i a t).hold = s.hold ∧ (s.measureStep u b i a t).solver = s.solver
    ∧ (s.measureStep u b i a t).roster = s.roster ∧ (s.measureStep u b i a t).link = s.link
    ∧ (s.measureStep u b i a t).queue = s.queue ∧ (s.measureStep u b i a t).pending = s.pending := by
  simp [State.measureStep]
@[simp] theorem State.takeSamples_frame (s : State) (k : RunClock) (n : Nat) (a : Bool) (e : Nat) :
    (s.takeSamples k n a e).hold = s.hold ∧ (s.takeSamples k n a e).control = s.control
    ∧ (s.takeSamples k n a e).solver = s.solver ∧ (s.takeSamples k n a e).verdicts = s.verdicts
    ∧ (s.takeSamples k n a e).roster = s.roster ∧ (s.takeSamples k n a e).link = s.link
    ∧ (s.takeSamples k n a e).queue = s.queue ∧ (s.takeSamples k n a e).pending = s.pending := by
  unfold State.takeSamples
  cases a <;> simp
@[simp] theorem State.checkAlignment_frame (s : State) (u : Setup) (k : RunClock) (c e : Nat) :
    (s.checkAlignment u k c e).hold = s.hold ∧ (s.checkAlignment u k c e).control = s.control
    ∧ (s.checkAlignment u k c e).solver = s.solver ∧ (s.checkAlignment u k c e).verdicts = s.verdicts
    ∧ (s.checkAlignment u k c e).roster = s.roster ∧ (s.checkAlignment u k c e).link = s.link
    ∧ (s.checkAlignment u k c e).queue = s.queue ∧ (s.checkAlignment u k c e).pending = s.pending := by
  unfold State.checkAlignment
  simp only []
  repeat' split
  all_goals simp

end Sys2Proof.Machine
end

