-- ==== Sys2Proof/Laws/Ops.lean ====
section
/-! SUPPORT. What the shared operations can do, for proofs to cite instead of unfolding them. -/

namespace Sys2Proof.Machine

/-! ### The shape of a meaning -/

theorem State.event_of_free {s : State} {act : State → State} (h : s.hold = .free) :
    s.event act = .next (act s).settlePresence := if_pos h

theorem State.event_of_held {s : State} {act : State → State} (h : s.hold ≠ .free) :
    s.event act = .next s := if_neg h

@[simp] theorem State.checkedEvent_true (s : State) (act : State → State) :
    s.checkedEvent true act = s.event act := rfl

@[simp] theorem State.checkedEvent_false (s : State) (act : State → State) :
    s.checkedEvent false act = .fault .impossibleOperand := rfl

/-- No occasion has arisen: no PRESENCE is made. -/
theorem State.settlePresence_of_settled {s : State} (h : s.control.presenceDue = false) :
    s.settlePresence = s := by
  simp [State.settlePresence, h]

/-- Once settled, no PRESENCE is due, and control is otherwise as it was. -/
@[simp] theorem State.settlePresence_control (s : State) :
    s.settlePresence.control = { s.control with presenceDue := false } := by
  unfold State.settlePresence
  split
  · simp only []
    split <;> simp
  · next h =>
    obtain h : s.control.presenceDue = false := by simpa using h
    rw [← h]

/-- The event status keeps what it held and gains the cause. -/
@[simp] theorem State.raise_verdicts (s : State) (e : Event) :
    (s.raise e).verdicts = s.verdicts.raise e := rfl

/-! ### Counts -/

theorem saturate_le (bound n : Nat) : saturate bound n ≤ bound := Nat.min_le_left _ _

theorem saturate_of_lt {bound n : Nat} (h : n < bound) : saturate bound n = n + 1 :=
  Nat.min_eq_right h

/-! ### The outgoing queue -/

@[simp] theorem Queue.get_set_same (q : Queue) (k : SlotKind) (sl : Slot) : (q.set k sl).get k = sl := by
  cases k <;> rfl

theorem Queue.get_set_other {q : Queue} {j k : SlotKind} {sl : Slot} (h : j ≠ k) :
    (q.set k sl).get j = q.get j := by
  cases j <;> cases k <;> first | rfl | exact absurd rfl h

@[simp] theorem Queue.set_set (q : Queue) (k : SlotKind) (a b : Slot) : (q.set k a).set k b = q.set k b := by
  cases k <;> rfl

@[simp] theorem Queue.set_get (q : Queue) (k : SlotKind) : q.set k (q.get k) = q := by cases k <;> rfl

/-- A rule on one slot replaces that slot and the link counts. -/
theorem State.onSlot_queue (s : State) (k : SlotKind) (f : Slot → LinkCounts → Slot × LinkCounts) :
    (s.onSlot k f).queue = s.queue.set k (f (s.queue.get k) s.link.counts).1
    ∧ (s.onSlot k f).link = { s.link with counts := (f (s.queue.get k) s.link.counts).2 } := ⟨rfl, rfl⟩

/-- A field that begins at a quiet link changes mode and quiet count alone. -/
theorem State.contendIfQuiet_link (s : State) :
    s.contendIfQuiet.link = s.link
    ∨ s.contendIfQuiet.link = { s.link with
        mode := .contending (arbitrationField s.control.number s.link.lastWinner), quiet := 0 } := by
  unfold State.contendIfQuiet
  split
  · exact .inr rfl
  · exact .inl rfl

/-- An offer reaches its own slot alone, and no queue at a stopped link. -/
theorem State.offer_queue (s : State) (k : SlotKind) (r : Record) :
    (s.offer k r).queue =
      if s.linkStopped then s.queue
      else s.queue.set k (Slot.offer k r (s.queue.get k) s.link.counts).1 := by
  unfold State.offer
  split
  · rfl
  · simp [State.onSlot_queue]

/-! ### The roster -/

theorem rosterEnsure_mem {j : Nat} {es : List RosterEntry} {e : RosterEntry} (h : e ∈ rosterEnsure j es) :
    e ∈ es ∨ e = RosterEntry.fresh j := by
  induction es with
  | nil => simp_all [rosterEnsure]
  | cons a es ih =>
    simp only [rosterEnsure] at h
    split at h
    · simp_all only [List.mem_cons]; tauto
    · split at h
      · exact .inl h
      · simp only [List.mem_cons] at h ⊢; tauto

/-- Creating an entry keeps the ascending order (R95). -/
theorem rosterEnsure_ascending {j : Nat} {es : List RosterEntry}
    (h : es.Pairwise fun a b => a.peer < b.peer) :
    (rosterEnsure j es).Pairwise fun a b => a.peer < b.peer := by
  induction es with
  | nil => simp [rosterEnsure]
  | cons a es ih =>
    rw [List.pairwise_cons] at h
    simp only [rosterEnsure]
    split
    · rename_i hj
      refine List.pairwise_cons.2 ⟨?_, List.pairwise_cons.2 h⟩
      intro e he
      rcases List.mem_cons.1 he with rfl | he
      · exact hj
      · exact Nat.lt_trans hj (h.1 e he)
    · split
      · exact List.pairwise_cons.2 h
      · refine List.pairwise_cons.2 ⟨?_, ih h.2⟩
        intro e he
        rcases rosterEnsure_mem he with he | rfl
        · exact h.1 e he
        · simp only [RosterEntry.fresh]; omega

/-- Changing entries in place keeps the order, where the change keeps their numbers. -/
theorem rosterChange_ascending {j : Nat} {f : RosterEntry → RosterEntry} {es : List RosterEntry}
    (hf : ∀ e, (f e).peer = e.peer) (h : es.Pairwise fun a b => a.peer < b.peer) :
    (rosterChange j f es).Pairwise fun a b => a.peer < b.peer := by
  refine List.pairwise_map.2 (h.imp fun {a b} hab => ?_)
  split <;> split <;> simp_all

/-! ### Pair tables -/

theorem pairOf_setPair_other {pairs : List PairEntry} {i j : Nat} {st : PairState} (h : i ≠ j) :
    pairOf (setPair j st pairs) i = pairOf pairs i := by
  induction pairs with
  | nil => rfl
  | cons p ps ih =>
    simp only [pairOf, setPair, List.map_cons, List.find?_cons] at ih ⊢
    by_cases hp : p.peer = j
    · have : ¬ p.peer = i := by omega
      simp_all
    · by_cases hi : p.peer = i <;> simp_all

theorem pairOf_setPair_same {pairs : List PairEntry} {j : Nat} {st : PairState} :
    pairOf (setPair j st pairs) j = (pairOf pairs j).map fun _ => st := by
  induction pairs with
  | nil => rfl
  | cons p ps ih =>
    simp only [pairOf, setPair, List.map_cons, List.find?_cons] at ih ⊢
    by_cases hp : p.peer = j <;> simp_all

/-! ### The receive FIFO -/

theorem markLost_length (es : List FifoEntry) : (markLost es).length = es.length := by
  induction es with
  | nil => rfl
  | cons e es ih => cases es <;> simp_all [markLost]

/-- A take never leaves more than four entries, nor makes a longer FIFO longer (R49, R50). -/
theorem takeInto_length (fifo : List FifoEntry) (f : Frame) :
    (takeInto fifo f).length ≤ max 4 fifo.length := by
  unfold takeInto
  split
  · rename_i h
    simp only [Config.fifoPlaces] at h
    simp only [List.length_append, List.length_singleton]; omega
  · rw [markLost_length]; exact Nat.le_max_right _ _

/-- Record assembly only takes frames out. -/
theorem drainFrom_fifo (es : List FifoEntry) : ∀ s : State, (drainFrom es s).link.fifo.length ≤ es.length := by
  induction es with
  | nil => intro s; simp [drainFrom]
  | cons e rest ih =>
    intro s
    have ih' := fun s => Nat.le_succ_of_le (ih s)
    unfold drainFrom
    repeat' split
    all_goals first | exact ih' _ | simp

/-- With an empty FIFO record assembly has nothing to do. -/
theorem State.drain_of_empty {s : State} (h : s.link.fifo = []) : s.drain = s := by
  rw [State.drain, h, drainFrom, ← h]
  rfl

/-- The offer of a record leaves the FIFO and record assembly alone. -/
@[simp] theorem State.offer_fifo (s : State) (k : SlotKind) (r : Record) :
    (s.offer k r).link.fifo = s.link.fifo ∧ (s.offer k r).link.opened = s.link.opened
    ∧ (s.offer k r).link.handOn = s.link.handOn := by
  unfold State.offer
  split
  · simp
  · rcases State.contendIfQuiet_link (s.onSlot k (Slot.offer k r)) with h | h <;>
      simp [h, State.onSlot_queue]

/-! ### The lines -/

/-- All that the station's drive of WAIT depends on (R43, R51). -/
theorem State.drivesWait_eq (s : State) :
    s.drivesWait = (decide (s.hold = .free) && !decide (s.link.mode = .stopped) && !s.link.clearSeen
      && (decide (4 ≤ s.link.fifo.length) || s.control.barrier.claim)) := rfl

/-! ### Bytes -/

@[simp] theorem bytesOf_length (count n : Nat) : (bytesOf count n).length = count := by
  induction count with
  | zero => rfl
  | succ c ih => simp [bytesOf, ih]

@[simp] theorem signedBytesOf_length (count : Nat) (i : Int) : (signedBytesOf count i).length = count :=
  bytesOf_length _ _

/-- Bytes hold the number they were made from, as far as they reach. -/
theorem natOf_bytesOf (count n : Nat) : natOf (bytesOf count n) = n % 256 ^ count := by
  have key : ∀ (c a : Nat),
      (bytesOf c n).foldl (fun m (b : Byte) => m * 256 + b.toNat) a = a * 256 ^ c + n % 256 ^ c := by
    intro c
    induction c with
    | zero => intro a; simp [bytesOf, Nat.mod_one]
    | succ c ih =>
      intro a
      simp only [bytesOf, List.foldl_cons, ih, BitVec.toNat_ofNat]
      rw [show (2 : Nat) ^ 8 = 256 from rfl, pow_succ, Nat.mod_mul (x := n) (a := 256 ^ c) (b := 256)]
      ring
  simpa [natOf] using key count 0

/-- A frame as sent passes the check (R93). -/
@[simp] theorem frameGood_frameOf (h : BitVec 16) (payload : List Byte) : frameGood (frameOf h payload) = true := by
  simp [frameGood, frameOf]

end Sys2Proof.Machine
end

