-- ==== Sys2Proof/Laws/Assembly.lean ====
section
/-! SUPPORT. What record assembly keeps of the link controller, and what abandoning a record does. -/

namespace Sys2Proof.Machine

/-- What record assembly keeps of the link controller: its mode, its quiet count, CLEAR, and the counts. -/
def Link.apart (l : Link) : LinkMode × Nat × Bool × Bool × Nat × Bool × LinkCounts :=
  (l.mode, l.quiet, l.clearSeen, l.clearPulse, l.clearRun, l.faultFlag, l.counts)
theorem State.breakOpen_link (s : State) :
    s.breakOpen.link = { s.link with opened := none } := by
  unfold State.breakOpen
  split
  · rename_i h; rw [← h]
  · simp only []; repeat' split
    all_goals simp
@[simp] theorem State.breakOpen_apart (s : State) : s.breakOpen.link.apart = s.link.apart := by
  rw [State.breakOpen_link]; rfl
@[simp] theorem State.afterEntry_apart (s : State) (e : FifoEntry) :
    (s.afterEntry e).link.apart = s.link.apart := by
  unfold State.afterEntry; split <;> simp
@[simp] theorem State.noteWinner_apart (s : State) (j : Nat) : (s.noteWinner j).link.apart = s.link.apart := by
  unfold State.noteWinner; split <;> rfl
theorem State.giveOn_link (s : State) (h : HandOn) : (s.giveOn h).link = { s.link with handOn := some h } := by
  simp [State.giveOn]
@[simp] theorem State.giveOn_apart (s : State) (h : HandOn) : (s.giveOn h).link.apart = s.link.apart := by
  rw [State.giveOn_link]; rfl
@[simp] theorem State.completeBuffered_apart (s : State) (bs : List Byte) :
    (s.completeBuffered bs).link.apart = s.link.apart := by
  unfold State.completeBuffered; simp only []; repeat' split
  all_goals simp
@[simp] theorem State.completeDiscarded_apart (s : State) (o : OpenRecord) (n : Nat) :
    (s.completeDiscarded o n).link.apart = s.link.apart := by
  unfold State.completeDiscarded; simp only []; repeat' split
  all_goals simp
@[simp] theorem State.acceptNext_apart (s : State) (o : OpenRecord) (f : GoodFrame) :
    (s.acceptNext o f).link.apart = s.link.apart := by
  unfold State.acceptNext; repeat' split
  all_goals simp
  all_goals rfl
@[simp] theorem State.acceptFirst_apart (s : State) (f : GoodFrame) :
    (s.acceptFirst f).1.link.apart = s.link.apart := by
  unfold State.acceptFirst; simp only []; repeat' split
  all_goals try simp
  all_goals exact State.breakOpen_apart s
theorem drainFrom_apart (es : List FifoEntry) : ∀ s : State, (drainFrom es s).link.apart = s.link.apart := by
  induction es with
  | nil => intro s; rfl
  | cons e rest ih =>
    intro s
    unfold drainFrom
    split
    · rfl
    · split
      · simp [ih]
      · split
        · simp only [ih]; split <;> simp
        · split <;> rename_i t h <;>
            obtain rfl : (s.acceptFirst _).1 = t := congrArg Prod.fst h
          · exact State.acceptFirst_apart _ _
          · simp [ih]
        all_goals
          split
          · simp [ih]
          · split <;> first | rfl | simp [ih]
@[simp] theorem State.drain_apart (s : State) : s.drain.link.apart = s.link.apart := drainFrom_apart _ s

/-! ### Discarding and abandoning -/

/-- Once a PHASE is discarded, its FIRST frame no longer keeps the FIFO waiting (R50, R121). -/
theorem State.discardFirst_moves (s : State) (o : OpenRecord) (counted : Bool) :
    (s.discardFirst o counted).firstWaits = false := by
  unfold State.discardFirst
  simp only []
  split
  · unfold State.afterEntry
    split
    · simp [State.firstWaits, State.breakOpen_link]
    · simp [State.firstWaits, State.popFifo]
  · simp [State.firstWaits]

/-- Nor does that of a current PHASE once abandoned (R58, R119). -/
theorem State.abandonOpen_moves (s : State) (o : OpenRecord) (counted : Bool) (h : s.link.opened = some o)
    (hc : o.holding = .current) : (s.abandonOpen counted).firstWaits = false := by
  simp only [State.abandonOpen, h, hc, if_true]
  split
  · exact State.discardFirst_moves _ _ _
  · next h0 => simpa [State.firstWaits] using h0

@[simp] theorem State.discardFirst_apart (s : State) (o : OpenRecord) (counted : Bool) :
    (s.discardFirst o counted).link.apart = s.link.apart := by
  unfold State.discardFirst
  simp only []
  split
  all_goals try simp
  all_goals rfl

@[simp] theorem State.abandonOpen_apart (s : State) (counted : Bool) :
    (s.abandonOpen counted).link.apart = s.link.apart := by
  unfold State.abandonOpen
  repeat' split
  all_goals try simp
  all_goals rfl

/-- Breaking a record that is no current PHASE leaves the contexts and the pair engine alone (R57, R118). -/
theorem State.breakOpen_engine {s : State} (h : ∀ o, s.link.opened = some o → o.holding ≠ .current) :
    s.breakOpen.epochs = s.epochs ∧ s.breakOpen.engine = s.engine := by
  unfold State.breakOpen
  split
  · simp
  · rename_i o ho
    simp only [h o ho, if_false]
    split <;> simp

/-- Discarding a PHASE leaves the contexts and the pair engine alone. -/
@[simp] theorem State.discardFirst_engine (s : State) (o : OpenRecord) (counted : Bool) :
    (s.discardFirst o counted).epochs = s.epochs ∧ (s.discardFirst o counted).engine = s.engine := by
  unfold State.discardFirst
  simp only []
  split
  · unfold State.afterEntry
    split
    · rw [(State.breakOpen_engine (by simp [State.popFifo])).1,
        (State.breakOpen_engine (by simp [State.popFifo])).2]
      simp
    · simp
  · simp

/-- So does abandoning the current PHASE, whose entry is settled apart from it (R58). -/
@[simp] theorem State.abandonOpen_engine (s : State) (counted : Bool) :
    (s.abandonOpen counted).epochs = s.epochs ∧ (s.abandonOpen counted).engine = s.engine := by
  unfold State.abandonOpen
  repeat' split
  all_goals simp

end Sys2Proof.Machine
end

