-- ==== Sys2Proof/Tests/Slice0.lean ====
section
/-! SUPPORT. Tests of single commands against the spec, and for each obligation with hypotheses the states and
operands that meet them. -/

namespace Sys2Proof.Tests

open Sys2Proof.Machine

-- One theorem at a time: side by side, their proofs take a thread each while they wait for the kernel.
set_option Elab.async false

/-! ## Well-formedness: each check refuses an ill-formed term -/

theorem test_wf_refuses_reading_zero : (Instr.sampleEdgeTimed 0 none).wf = false := by decide
theorem test_wf_refuses_reading_over_limit : (Instr.sampleEdgeTimed 20480001 none).wf = false := by decide
theorem test_wf_refuses_second_not_after_first : (Instr.sampleEdgeTimed 7 (some 7)).wf = false := by decide
theorem test_wf_refuses_second_over_limit : (Instr.sampleEdgeTimed 7 (some 20480001)).wf = false := by decide
theorem test_wf_refuses_limit_reading_zero : (Instr.sampleTimerLimit (some 0)).wf = false := by decide
theorem test_wf_refuses_second_without_first :
    (Instr.syncPulse { elapsed := 0, edges := 0, windowEdges := 0, timing := ⟨none, some 5⟩ }).wf = false := by
  decide
theorem test_wf_refuses_short_payload :
    (Instr.frameReceived { header := 2, payload := [0], crc := 0 }).wf = false := by decide
theorem test_wf_length_field_zero_means_128 :
    (Instr.frameReceived { header := 0, payload := List.replicate 128 0, crc := 0 }).wf = true
    ∧ (Instr.frameReceived { header := 0, payload := [], crc := 0 }).wf = false := by decide +kernel
theorem test_wf_admits_the_ends :
    (Instr.sampleEdgeTimed 1 (some 2)).wf = true ∧ (Instr.sampleEdgeTimed 20480000 none).wf = true
    ∧ (Instr.sampleTimerLimit none).wf = true := by decide

/-- No row of the table gives bits. -/
theorem test_no_word_spells_a_command : decodeTableWord 16 0x1234 = none := rfl

/-! ## The spec's worked values -/

/-- "123456789" in ASCII. -/
def nineDigits : List Byte := [0x31, 0x32, 0x33, 0x34, 0x35, 0x36, 0x37, 0x38, 0x39]

/-- R93. -/
theorem test_crc_check_value : crc16 nineDigits = 0x29B1 := by decide +kernel
/-- R94. -/
theorem test_digest_check_values : digestOf nineDigits = 0xF4 ∧ digestOf [0x80] = 0x89 := by decide +kernel

/-- A setup at p = 10 for a DUT of 100 MHz, with L_0 = 22 tu. -/
def plan : Setup :=
  { exponent := 10, tNom := 80000 * 65536, tolerance := 0, settleEpochs := 0, mode := .hat,
    limits := [22, 0, 0, 0, 0, 0, 0, 0], figureMask := 3, figureLimit := 0, minEpochs := 3, mask := 0x7F }

/-- Worked time-error cases of spec 01. -/
theorem test_time_error_at_100_MHz :
    ({ Capture.reset with reference := some { index := 0, delay := 30000, edges := 2048 } }).timeError plan 1
      (some 30012) = 12 := by decide +kernel
theorem test_time_error_with_a_fraction :
    ({ Capture.reset with reference := some { index := 0, delay := 100000, edges := 393 } }).timeError
      { plan with tNom := 27306666667 } 1 (some 10000) = 0 := by decide +kernel

/-- Worked slip case of spec 01: entries 300 to 304. -/
theorem test_worked_slip_case :
    [[40, 44, 80047], [44, 80047, 80051], [80047, 80051, 80050]].map secondDifference
      = [79999, -79999, -5] := by decide +kernel

/-- Worked close case of spec 01: the entries its table gives, the others at rest between them. -/
def closeCase : List Int :=
  [5000, 4836] ++ List.replicate 1022 4672 ++ [-162736] ++ List.replicate 1023 (-330380)
theorem test_worked_close_drift : driftOf closeCase = -335380 ∧ offsetOf plan closeCase = 1000 := by decide +kernel
theorem test_worked_close_residuals :
    (([(0, 5000), (1, 4836), (2, 4672), (1024, -162736), (2047, -330380)] : List (Nat × Int)).map fun e =>
      e.2 - 5000 - roundHalfAway (e.1 * (-335380)) 2047) = [0, 0, 0, 36, 0] := by decide +kernel

/-- Worked arbitration rounds of spec 04. -/
theorem test_worked_arbitration :
    [(3, 9), (12, 9), (31, 9), (3, 12), (31, 12), (4, 31), (6, 1)].map (fun x => arbitrationKey x.1 x.2)
      = [25, 2, 21, 22, 18, 4, 4] ∧ arbitrationField 12 9 = 0b0001001100 := by decide

/-- Worked scale sums of spec 07: after nine residuals. -/
theorem test_worked_scale_sums :
    let out := consume [0, 10, 7, 15, 12, 4, 9, 11, 6] [0, 7, 5, 9, 7, 3, 5, 4, 3] 0 WorkBuffer.empty.held
      (List.replicate 8 0)
    out.1 = 9 ∧ out.2.1 = [[7, 3], [4, 3], [5, 3], [0, 3], [0], [0], [0], [0]]
    ∧ out.2.2 = [173, 17, 49, 0, 0, 0, 0, 0] := by decide +kernel
theorem test_worked_scale_rounding :
    [scaleValue 4935 7, scaleValue 4934 7, scaleValue 2047023 0, scaleValue 2047022 0]
      = [353, 352, 1001, 1000] := by decide +kernel

/-- Eight values whose first two are given. -/
def two (a b : Nat) : List Nat := [a, b, 0, 0, 0, 0, 0, 0]

/-- A DONE pair entry. -/
def done (j a b : Nat) : PairEntry := { peer := j, state := .done (two a b) }

/-- A summary. -/
def row (j : Nat) (es : List (Nat × Nat × Nat)) : Summary :=
  { source := j, entries := es.map fun e => { peer := e.1, values := two e.2.1 e.2.2 } }

/-- The four stations of spec 08, section 8.6, at station 5. -/
def fourStations : Context :=
  { epoch := 60, void := none, y := some 0, selfValues := some (two 7 7), period := none,
    pairs := [done 2 900 400, done 9 1300 600, done 14 1000 450]
    summaries :=
      [row 2 [(5, 900, 400), (9, 1400, 700), (14, 1100, 500)],
       row 9 [(2, 1400, 700), (5, 1300, 600), (14, 1500, 750)],
       row 14 [(2, 1100, 500), (5, 1000, 450), (9, 1500, 750)]] }
theorem test_worked_separation :
    let r := measuredResult 5 3 fourStations []
    r.n = 4 ∧ r.grade = .separated ∧ r.q.take 2 = [400, 158] ∧ r.bands.take 2 = [20, 12] ∧ r.figure = 558
    ∧ r.j = 23 ∧ agreedSet 5 fourStations = [2, 9, 14] ∧ chargedSet 5 fourStations [] = [] := by
  decide +kernel

/-- Section 8.8: five stations, with the pair 9–14 contradicted and the pair 2–20 absent. -/
def fiveStations : Context :=
  { fourStations with
    pairs := [done 2 900 400, done 9 1300 600, done 14 1000 450, done 20 800 300]
    summaries :=
      [row 2 [(5, 900, 400), (9, 1400, 700), (14, 1100, 500)],
       row 9 [(2, 1400, 700), (5, 1300, 600), (14, 1500, 750), (20, 1, 1)],
       row 14 [(2, 1100, 500), (5, 1000, 450), (9, 1512, 750), (20, 2, 2)],
       row 20 [(5, 800, 300), (9, 1, 1), (14, 2, 2)]] }
theorem test_worked_pruning :
    solvingPeers 5 fiveStations [] = [2, 9] ∧ chargedSet 5 fiveStations [] = [9, 14]
    ∧ agreedSet 5 fiveStations = [2, 9, 14, 20]
    ∧ (measuredResult 5 3 fiveStations []).q.take 1 = [400] := by decide +kernel

/-- Sections 8.6 and 8.7: roundings, and a band below floor. -/
theorem test_worked_separation_roundings :
    separated 4 3200 7197 = 401 ∧ separated 4 3200 7199 = 400 ∧ separated 3 250 650 = 0
    ∧ separated 3 500 650 = 175 ∧ separated 3 500 649 = 176 ∧ numerator 3 250 650 = -150 := by decide +kernel

/-- Section 9.2: L_0 = 22 tu. -/
theorem test_worked_standings :
    [370, 371, 484, 485].map (fun q => standing q 22) = [.within, .marginal, .marginal, .exceeded] := by
  decide +kernel

/-- Section 9.4: the run close of the run judged there. -/
theorem test_worked_run_close :
    let a := ((AccSet.empty.add (two 400 0) 4 false).add (two 460 0) 3 false).add (two 410 0) 4 false
    let v : VerdictUnit := { VerdictUnit.reset with separated := a, dutAtEnd := some .measuring }
    a.count = 3 ∧ a.smallestN = some 3 ∧ a.averages.take 1 = [423]
    ∧ v.runClose { plan with limits := two 24 0 } false = { verdict := .pass, reason := .none, band := 0 }
    ∧ v.runClose { plan with limits := two 24 0, minEpochs := 4 } false
      = { verdict := .noResult, reason := .tooFewEpochs, band := 0 } := by decide +kernel

/-- Section 10.6: the whole epoch, and its judgement. -/
theorem test_worked_period_epoch :
    let v := EpochStats.values { count := 2048, sum := 240, squares := 25200, min := some (-20), max := some 10 }
    v = { variance := 12, rms := 3, peak := 30 }
    ∧ judgeValues { plan with limits := two 4 32 } .separated [v.variance, v.peak ^ 2, 0, 0, 0, 0, 0, 0] 0
      = { verdict := .marginal, reason := .band, band := 1 } := by decide +kernel

/-! ## Small states -/

/-- What a command leaves; the state itself where it does not complete. -/
def after (c : Instr) (s : State) : State :=
  match exec c s with
  | .next t => t
  | _ => s

/-- Station 5, out of reset, holding `plan`, in a run state. -/
def inState (st : RunState) : State :=
  { State.reset with
    hold := .free
    control :=
      { Control.reset with number := 5, held := some { setup := plan, digest := 0x55 }, state := st } }

/-- The same with another setup. -/
def under (u : Setup) (st : RunState) : State :=
  { inState st with control := { (inState st).control with held := some { setup := u, digest := 0x55 } } }

/-- A header of run 7 with the digest of `inState`. -/
def head (kind source epoch frames : Nat) : Header :=
  { kind := kind, source := source, target := 255, run := 7, epoch := epoch, digest := 0x55,
    frames := frames }

/-- The context of epoch 1 in EXCHANGE. -/
def openContext : Context := { Context.fresh 1 with pairs := freshPairs 5 }

/-- Station 5 in a HAT run, epoch 2 in CAPTURE and epoch 1 in EXCHANGE. -/
def exchanging : State :=
  { inState .running with
    capture := { Capture.reset with dut := some .measuring, settle := some 0, tNomRounded := some 80000 }
    epochs := { runNumber := 7, counter := 2, capture := some (Context.fresh 2),
                exchange := some openContext, summaryWait := none }
    engine := { PairEngine.reset with
      mode := some .hat, ownStore := some { epoch := 1, residuals := List.replicate 2048 0 } } }

/-- `exchanging` with another context in EXCHANGE. -/
def exchangingWith (c : Context) : State := exchanging.withEpochs { exchanging.epochs with exchange := some c }

/-- A link controller in a mode. -/
def linkIn (m : LinkMode) (s : State) : State := s.withLink { s.link with mode := m }

/-- A station to which record assembly hands a record on. -/
def handed (h : HandOn) (s : State) : State := s.withLink { s.link with handOn := some h }

/-- A PRESENCE of station 9. -/
def presence9 : PresenceBody :=
  { runState := .running, dut := .measuring, cause := .power, setupHeld := true, events := 0, slips := 3 }

/-- A VERDICT body. -/
def verdict9 : VerdictBody :=
  { verdict := .pass, reason := .none, reasonBand := 0, grade := .separated, n := 4, mode := .hat,
    belowFloor := 0, runClose := false, events := 0, slips := 65535, y := -2 ^ 31, bands := two 20 12,
    figure := 23, separatedCount := 1, boundCount := 0 }

/-- An epoch VERDICT of station 5 in the outgoing queue, and one flagged run-close. -/
def ownVerdict : Record := { header := head 4 5 1 1, body := .verdict verdict9 }
def closeVerdict : Record := { header := head 4 5 2 1, body := .verdict { verdict9 with runClose := true } }

/-- A PHASE of station 5. -/
def ownPhase : Record := { header := head 2 5 1 49, body := .phase [] }

/-- A slot that holds a record UNSENT, or ON_LINK. -/
def unsent (r : Record) : Slot := { state := .unsent r, successor := none }
def onLink (r : Record) (past ended : Bool) : Slot := { state := .onLink r past ended, successor := none }

/-- A station with records in its queue. -/
def queued (k : SlotKind) (sl : Slot) (s : State) : State := s.withQueue (s.queue.set k sl)

/-- An ONLY frame with these record bytes. -/
def onlyFrame (bs : List Byte) : Frame := frameOf (frameHeader .only 0 bs.length) bs

/-- A station in the middle of a frame's receipt. -/
def receiving : State := linkIn (.listening .inFrame) (inState .ready)

/-- A pulse that finds nothing but these readings. -/
def pulse (elapsed : Nat) (t : Timing) : SyncReading :=
  { elapsed := elapsed, edges := 0, windowEdges := 0, timing := t }

/-- A station in a run with a run count and a next sample index. -/
def clocked (count next : Nat) : State :=
  (inState .running).withCapture { Capture.reset with clock := some { count := count, nextIndex := next } }

/-- A MEASURING station whose timer runs for the sample of index `i`; `g` is the reading before, `a` and `b`
the newest entries, `slips` the slip counter. -/
def sampling (mode : AnalysisMode) (i g : Nat) (a b : Int) (slips : Nat) : State :=
  { inState .running with
    capture := { Capture.reset with
      awaiting := [{ firstIndex := i, count := 1, adjusted := false, edges := 2048 }]
      dut := some .measuring, settle := some 0, lastReading := some g, slips := slips
      reference := some { index := 0, delay := 1000, edges := 2048 * (i - 1) }
      raw := some { epoch := 0, entries := [a, b] }, tNomRounded := some 80000 }
    epochs := { Epochs.reset with capture := some (Context.fresh 0) }
    engine := { PairEngine.reset with mode := some mode, stats := some EpochStats.start } }

/-! ## Single commands -/

/-- R167, R168: number 24 is a strap fault. -/
theorem test_powerOn :
    (after (.powerOn 23 false) State.reset).control.state = .awaitSetup
    ∧ (after (.powerOn 24 false) State.reset).control.state = .strapFault
    ∧ (after (.powerOn 24 false) State.reset).link.mode = .stopped := by decide +kernel

/-- R168: setup kept, roster lost. -/
theorem test_resetN :
    (after .resetNAsserted (inState .running)).control.held = (inState .running).control.held
    ∧ (after (.resetNReleased 7) (after .resetNAsserted (inState .running))).control.state = .ready
    ∧ (after (.resetNReleased 7) (after .resetNAsserted (inState .running))).control.cause = .pin := by
  decide +kernel

/-- R5: halves go up, and a passed check moves nothing. -/
theorem test_syncPulse_alignment :
    [1024, 1025, 1024 + 32767, 1024 + 32768].map
      (fun e => (after (.syncPulse (pulse e ⟨none, none⟩)) (clocked 64512 64)).capture.clock.map (·.count))
      = [some 65536, some 65536, some 65536, some 131072] := by decide +kernel

/-- R171: an armed station enters RUNNING at the pulse. -/
theorem test_syncPulse_starts_the_run :
    let s := inState .barrier
    let armed := s.withControl { s.control with barrier := { claim := true, looking := true, armed := true } }
    (after (.syncPulse (pulse 0 ⟨some 30000, none⟩)) armed).control.state = .running
    ∧ (after (.syncPulse (pulse 0 ⟨some 30000, none⟩)) s).control.state = .barrier
    ∧ (after (.syncPulse (pulse 0 ⟨some 30000, none⟩)) armed).capture.raw
      = some { epoch := 0, entries := [0] } := by decide +kernel

theorem test_activityWindowLimit :
    (after (.activityWindowLimit 1) (inState .ready)).verdicts.events = 0x04
    ∧ (after (.activityWindowLimit 1) (inState .running)).verdicts.events = 0 := by decide +kernel

theorem test_sampleInstant :
    (after (.sampleInstant 2048) (clocked 64512 64)).capture.clock = some { count := 65536, nextIndex := 65 } := by
  decide +kernel

/-- R7, R16: a second difference of 40,000 tu is none, of 40,001 tu is a slip. -/
theorem test_sampleEdgeTimed :
    (after (.sampleEdgeTimed 1000 none) (sampling .hat 2 1000 40000 0 65535)).capture.slips = 65535
    ∧ (after (.sampleEdgeTimed 1000 none) (sampling .hat 2 1000 40001 0 65535)).capture.slips = 0
    ∧ (after (.sampleEdgeTimed 1000 none) (sampling .hat 2 1000 40001 0 65535)).verdicts.events = 0x08
    ∧ (after (.sampleEdgeTimed 1012 none) (sampling .hat 2 1000 0 0 0)).capture.raw
      = some { epoch := 0, entries := [0, 0, 12] } := by decide +kernel

theorem test_sampleTimerLimit :
    (after (.sampleTimerLimit none) (sampling .hat 2 1000 0 0 0)).capture.dut = some .absent
    ∧ (after (.sampleTimerLimit (some 5)) (sampling .hat 2 1000 0 0 0)) = sampling .hat 2 1000 0 0 0 := by
  decide +kernel

/-- R37, R96: the FIRST frame of a PHASE of the open epoch opens its pair entry. -/
theorem test_phaseFirstFrame :
    let o : OpenRecord := { header := head 2 9 1 49, taken := 0, holding := .unclassified, counted := false }
    let e : FifoEntry := { frame := some { kind := .first, index := 0, payload := [] }, lost := false }
    let s := exchanging.withLink { exchanging.link with opened := some o, fifo := [e] }
    ((after .phaseFirstFrame s).epochs.exchange.bind fun c => pairOf c.pairs 9)
      = some (.receiving (List.replicate 8 0) 0)
    ∧ (after .phaseFirstFrame s).roster.map (fun e => (e.peer, e.state)) = [(9, .heard)] := by decide +kernel

/-- R68, R60: a won field sends the slot of highest priority, and its delivery frees the slot. -/
theorem test_arbitrationWon :
    let s := linkIn (.contending 0)
      (queued .verdict (unsent ownVerdict) (queued .phase (unsent ownPhase) (inState .running)))
    (after .arbitrationWon s).link.mode = .sending .phase 0 .inFrame := by decide +kernel
theorem test_openReleased :
    let s := linkIn (.sending .verdict 0 .awaitingTake)
      (queued .verdict (onLink ownVerdict false false) (inState .running))
    (after .openReleased s).queue.verdict.state = .empty
    ∧ (after .openReleased s).verdicts.lastReported = some .pass
    ∧ (after .openReleased s).link.lastWinner = 5 := by decide +kernel

/-- R78: the eighth CLEAR in a row is a link fault. -/
theorem test_stallLimit :
    let s := linkIn (.sending .verdict 0 .awaitingTake)
      (queued .verdict (onLink ownVerdict false false) (inState .running))
    let seventh := s.withLink { s.link with clearRun := 7 }
    (after .stallLimit s).verdicts.events = 0 ∧ (after .stallLimit s).link.counts.clearVerdict = 1
    ∧ (after .stallLimit seventh).verdicts.events = 0x10 := by decide +kernel

/-- R71, R83: a record of the station's own number is a conflict, and a STOP from station 9 is discarded. -/
theorem test_frameReceived :
    (after (.frameReceived (onlyFrame (head 1 5 0 1).bytes)) receiving).link.handOn = some .conflict
    ∧ (after (.frameReceived (onlyFrame (head 10 31 0 1).bytes)) receiving).link.handOn
      = some (.record { header := head 10 31 0 1, body := .stop })
    ∧ (after (.frameReceived (onlyFrame (head 10 9 0 1).bytes)) receiving).link.handOn = none
    ∧ (after (.frameReceived (onlyFrame (head 1 9 0 1).bytes)) receiving).roster.map (·.broken) = [1] := by
  decide +kernel

/-- R117: a record that completes with an earlier PHASE's LAST frame in hand finds the entry DONE. -/
theorem test_frameReceived_finishes_the_phase :
    (let c := { openContext with pairs := setPair 9 (.receiving (List.replicate 8 0) 0) openContext.pairs }
     let s := linkIn (.listening .inFrame) ((exchangingWith c).withEngine
       { exchanging.engine with inHand := some { peer := 9, bytes := List.replicate 9 0, last := true } })
     let t := after (.frameReceived (onlyFrame (head 10 31 1 1).bytes)) s
     t.link.handOn = some (.record { header := head 10 31 1 1, body := .stop }) ∧ t.engine.inHand = none
     ∧ (t.epochs.exchange.bind fun c => pairOf c.pairs 9) = some (.done (List.replicate 8 0))) := by
  decide +kernel

/-- R56, R59: a SUMMARY of two frames completes. -/
theorem test_summary_of_two_frames :
    (let es : List SummaryEntry := [{ peer := 2, values := two 1 2 }, { peer := 5, values := two 3 4 },
         { peer := 14, values := two 5 6 }]
       let r : Record := { header := head 3 9 1 2, body := .summary es }
       let o : OpenRecord := { header := r.header, taken := 1, holding := .buffered (r.bytes.take 128),
                               counted := false }
       let bs := r.bytes.drop 128
       let e : FifoEntry := { frame := some { kind := .last, index := 1, payload := bs }, lost := false }
       let t := (receiving.withLink { receiving.link with opened := some o, fifo := [e] }).drain
       t.link.handOn = some (.record { header := r.header, body := .summary es }) ∧ t.link.opened = none
       ∧ t.link.lastWinner = 9) := by decide +kernel

/-- R47. -/
theorem test_frameStartBit :
    [15, 16, 63, 64].map (fun q =>
      (after (.frameStartBit (.atQuiet q)) (linkIn (.listening .between) (inState .ready))).link.mode)
      = [.listening .between, .listening .inFrame, .listening .inFrame, .listening .between] := by
  decide +kernel

/-- R44, R51: in IDLE_WAIT at a quiet count of 64 an offer starts a field, but not after another node's WAIT. -/
theorem test_frameStartBit_wait :
    let s := (linkIn .idleWait (inState .ready)).withLink { Link.reset with mode := .idleWait, quiet := 64 }
    (s.offer .verdict ownVerdict).link.mode = .contending (arbitrationField 5 s.link.lastWinner)
    ∧ ((after (.frameStartBit .waitAsserted) s).offer .verdict ownVerdict).link.mode = .idleWait := by
  decide +kernel

/-- R62: CLEAR sets the last winner to 31. -/
theorem test_clearSeen :
    let s := (inState .ready).withLink { (inState .ready).link with lastWinner := 9 }
    (after .clearSeen s).link.lastWinner = 31
    ∧ (after .clearReleased (after .clearSeen s)).link.clearSeen = false := by decide +kernel

/-- R96, R97. -/
theorem test_presenceRecord :
    let s := handed (.record { header := head 1 9 0 1, body := .presence presence9 }) (inState .ready)
    (after .presenceRecord s).roster.map (fun e => (e.peer, e.state, e.runState, e.dut))
      = [(9, .heard, some .running, some .measuring)] := by decide +kernel

/-- R174, R156: the mask of a new station holds the event. -/
theorem test_numberConflict :
    (after .numberConflict (handed .conflict (inState .running))).control.state = .conflict
    ∧ (after .numberConflict (handed .conflict (inState .running))).attn = true := by decide +kernel

/-- A SETUP's fields. -/
def setupFields (tNom : Nat) : SetupFields :=
  { exponent := 17, tNom := tNom, tolerance := 0, settleEpochs := 65535, modeByte := 2,
    limits := two 24 0, figureMask := 1, figureLimit := 0, minEpochs := 0, maskByte := 0xFF }

/-- R169: clamps, and the ends of the accepted range. -/
theorem test_setup_clamps :
    let u := (setupFields (32000 * 65536)).effective
    u.exponent = 16 ∧ u.settleEpochs = 255 ∧ u.mode = .hat ∧ u.minEpochs = 1 ∧ u.mask = 0x7F := by decide +kernel
theorem test_setup_range :
    [32000 * 65536 - 1, 32000 * 65536, 8000000 * 65536, 8000000 * 65536 + 1].map
      (fun t => (setupFields t).accepted) = [false, true, true, false] := by decide +kernel

/-- R170. -/
theorem test_start :
    let s (d : Byte) := handed (.record { header := head 9 31 0 1, body := .start 7 d }) (inState .ready)
    (after .start (s 0x55)).control.state = .barrier ∧ (after .start (s 0x55)).drivesWait = true
    ∧ (after .start (s 0x54)).control.state = .ready ∧ (after .start (s 0x54)).verdicts.events = 0x40 := by
  decide +kernel

/-- R172, R149. -/
theorem test_stop :
    let s := handed (.record { header := head 10 31 0 1, body := .stop }) exchanging
    (after .stop s).control.state = .ready
    ∧ (after .stop s).verdicts.history.map (fun e => (e.runClose, e.verdict, e.reason))
      = [(true, .noResult, .tooFewEpochs)] := by decide +kernel

/-- R50, R58: a STOP abandons a current PHASE whose FIRST frame a hold keeps in the FIFO, and the frame leaves. -/
theorem test_stop_discards_the_first_frame :
    let o : OpenRecord := { header := head 2 9 1 49, taken := 0, holding := .current, counted := false }
    let e : FifoEntry := { frame := some { kind := .first, index := 0, payload := [] }, lost := false }
    let s := handed (.record { header := head 10 31 0 1, body := .stop })
      ((exchanging.withLink { exchanging.link with opened := some o, fifo := [e] }).withEngine
        { exchanging.engine with closeHold := true })
    (after .stop s).link.fifo = []
    ∧ (after .stop s).link.opened = some { o with taken := 1, holding := .discarded } := by decide +kernel

/-- R152. -/
theorem test_recall :
    let s (target : Nat) := handed
      (.record { header := { head 11 31 0 1 with target := target }, body := .recall }) (inState .ready)
    (after .recall (s 5)).queue.history.state ≠ .empty ∧ (after .recall (s 6)).queue.history.state = .empty := by
  decide +kernel

/-! ## Witnesses: states and operands that meet the hypotheses of the obligations -/

theorem rest_inState (st : RunState) : (inState st).atRest := ⟨rfl, rfl⟩
theorem rest_exchanging : exchanging.atRest := ⟨rfl, rfl⟩

theorem witness_StepRunsTheFrontCommand :
    ((inState .ready).withPending [.stop]).pending = Instr.stop :: [] ∧ (inState .ready).pending = [] := by
  decide +kernel

theorem witness_WellFormedCommandsComplete :
    (Instr.sampleEdgeTimed 20480000 none).wf = true ∧ (Instr.sampleTimerLimit (some 0)).wf = false := by
  decide

theorem witness_ResetHoldsOffEveryEvent : State.reset.hold ≠ .free ∧ Instr.stop.wf = true := by decide

/-- A state in the middle of a run, with a command in its queue, meets the four invariants, and its step
completes. -/
def midRun : State :=
  { exchanging with
    roster := [RosterEntry.fresh 2, RosterEntry.fresh 23]
    link := { exchanging.link with mode := .sending .phase 0 .inFrame }
    queue := exchanging.queue.set .phase (onLink ownPhase false false)
    pending := [.endOfAFrame true] }
theorem witness_step_of_midRun : ∃ t, step midRun = .next t := ⟨_, rfl⟩
theorem witness_BuffersAndCountsStayBounded : midRun.bounded := by
  unfold State.bounded State.fifoBounded State.ringSound State.countersBounded State.linkCountsBounded
    State.rosterCountsBounded
  decide +kernel
theorem witness_RosterStaysSound : midRun.rosterSound := by
  unfold State.rosterSound
  decide +kernel
theorem witness_RunStateKeepsItsExclusions : midRun.runSound := by
  refine ⟨fun h => absurd h (by decide +kernel), fun _ => rfl, ?_, ?_, ?_⟩ <;> intro c h <;> cases h <;> rfl
theorem witness_LinkStateAgreesWithTheQueue : midRun.queueSound := by
  refine ⟨fun h => absurd h (by decide +kernel), ?_, rfl⟩
  intro k i p h
  cases h
  exact ⟨_, _, _, rfl⟩

theorem witness_PowerOnReadsTheStraps : (23#5).toNat ≤ 23 ∧ 24 ≤ (24#5).toNat := by decide

theorem witness_ResetNKeepsAndReleaseReadsTheStraps :
    (inState .running).hold = .free
    ∧ (let s := after .resetNAsserted (inState .running)
       s.link = Link.reset ∧ s.queue = Queue.empty ∧ s.control.presenceDue = false ∧ s.hold = .resetN)
    ∧ (let s := after (.powerOn 0 true) State.reset
       s.link = Link.reset ∧ s.queue = Queue.empty ∧ s.control.presenceDue = false
         ∧ s.hold = .resetNFromPowerOn) := by decide +kernel

theorem witness_DetectorReportsAtWindowEnd :
    (inState .ready).atRest ∧ (inState .running).atRest ∧ (inState .conflict).atRest
    ∧ (inState .ready).capture.active = decide (0 < 0) ∧ (inState .running).capture.active ≠ decide (0 < 1)
    ∧ (inState .conflict).capture.active ≠ decide (0 < 1)
    ∧ (inState .ready).capture.active ≠ decide (0 < 1) := by
  unfold State.atRest; decide +kernel

/-- The last sample instant before epoch 1, its boundary the next. -/
def beforeBoundary (x : Option Context) : State :=
  (clocked 2096128 2048).withEpochs { Epochs.reset with counter := 1, capture := x }
/-- The run count the pulse finds: 65,536, 65,537, 98,303, 98,304 and 65,535; then a forward step that passes the
boundary, and one that owes no sample. -/
theorem witness_SyncPulseAlignsTheRunCount :
    let s := clocked 64512 64
    s.atRest ∧ s.control.state = .running ∧ s.control.held = some { setup := plan, digest := 0x55 }
    ∧ s.capture.clock = some { count := 64512, nextIndex := 64 }
    ∧ s.capture.active = decide (0 < (pulse 0 ⟨none, none⟩).windowEdges)
    ∧ (pulse 0 ⟨none, none⟩).timing.ok = true
    ∧ (64512 + 1024) % 65536 = 0
    ∧ (0 < (64512 + 1025) % 65536 ∧ (64512 + 1025) % 65536 < 32768)
    ∧ (64512 + 33791) % 65536 = 32767
    ∧ (32768 ≤ (64512 + 33792) % 65536 ∧ 64 ≤ 131072 / 2 ^ plan.exponent ∧ 64 % 2048 ≠ 0)
    ∧ (32768 ≤ (64512 + 1023) % 65536 ∧ 64 ≤ 65536 / 2 ^ plan.exponent)
    ∧ (∀ x ∈ [none, some (Context.fresh 0)],
      (beforeBoundary x).hold = .free ∧ (beforeBoundary x).control.presenceDue = false
      ∧ (beforeBoundary x).control.state = .running
      ∧ (beforeBoundary x).control.held = some { setup := plan, digest := 0x55 }
      ∧ (beforeBoundary x).capture.clock = some { count := 2096128, nextIndex := 2048 }
      ∧ (beforeBoundary x).epochs.capture = x)
    ∧ (32768 ≤ (2096128 + 1023) % 65536 ∧ 2048 ≤ 2097152 / 2 ^ plan.exponent ∧ 2048 % 2048 = 0)
    ∧ ((clocked 64512 65).capture.clock = some { count := 64512, nextIndex := 65 }
      ∧ 65536 / 2 ^ plan.exponent < 65)
    ∧ ∀ st ∈ [RunState.awaitSetup, .ready, .strapFault, .conflict],
      (inState st).hold = .free ∧ (inState st).control.presenceDue = false ∧ (inState st).control.state = st
      ∧ st ≠ .running ∧ st ≠ .barrier := by
  unfold State.atRest; decide +kernel

/-- A station at the start barrier, armed or not. -/
def atBarrier (u : Setup) (armed : Bool) : State :=
  (under u .barrier).withControl { (under u .barrier).control with
    barrier := { claim := true, looking := armed, armed := armed } }
theorem witness_SyncPulseAtTheBarrier :
    (∀ armed, ∀ u ∈ [plan, { plan with mode := .period }, { plan with settleEpochs := 1 }],
      (atBarrier u armed).hold = .free ∧ (atBarrier u armed).control.presenceDue = false
      ∧ (atBarrier u armed).capture.active = decide (0 < (pulse 0 ⟨none, none⟩).windowEdges)
      ∧ (atBarrier u armed).capture.active ≠ decide (0 < { pulse 0 ⟨none, none⟩ with windowEdges := 1 }.windowEdges)
      ∧ (atBarrier u armed).control.state = .barrier ∧ (atBarrier u armed).control.barrier.armed = armed
      ∧ (atBarrier u armed).control.held = some { setup := u, digest := 0x55 }
      ∧ (atBarrier u armed).epochs.capture = none)
    ∧ plan.settleEpochs = 0 ∧ plan.mode = .hat
    ∧ (Timing.mk (some 1) none).ok = true ∧ (Timing.mk (some 1) (some 20480000)).ok = true
    ∧ (Timing.mk none none).ok = true := by decide +kernel

/-- A station in epoch 1 whose next sample is of index `n`, marked by an adjustment or not. -/
def takingWith (marked : Bool) (n : Nat) (x : Option Context) : State :=
  let s := (clocked 0 n).withCapture { (clocked 0 n).capture with nextAdjusted := marked }
  s.withEpochs { Epochs.reset with counter := 1, capture := x }
theorem witness_SampleInstantTakesOneSample :
    (∀ n ∈ [2047, 2048, 2049], ∀ marked, ∀ x ∈ [none, some (Context.fresh 0)],
      let s := takingWith marked n x
      s.hold = .free ∧ s.control.presenceDue = false ∧ s.control.state = .running
      ∧ s.control.held = some { setup := plan, digest := 0x55 }
      ∧ s.capture.clock = some { count := 0, nextIndex := n } ∧ s.capture.nextAdjusted = marked
      ∧ s.epochs.capture = x)
    ∧ 2047 % 2048 ≠ 0 ∧ 2048 % 2048 = 0 := by decide +kernel
/-- R6, item 4: the context that a marked sample creates at a boundary is void DISTURBED, as the one it finds is. -/
theorem test_markedSample_disturbs :
    [none, some (Context.fresh 0)].map (fun x =>
      (after (.sampleInstant 7) (takingWith true 2048 x)).epochs.capture.bind (·.void))
      = [some .disturbed, some .disturbed] := by decide +kernel

/-- The first sample of an epoch to which the clauses of a MEASURING DUT speak, the last that does not close it, and
the two last samples that do; and the widest good interval. -/
theorem witness_GoodSample_state :
    (∀ mode ∈ [AnalysisMode.hat, .period], ∀ i ∈ [2, 2046, 2047, 4095],
      let s := sampling mode i 1000 40000 0 65534
      s.hold = .free ∧ s.control.presenceDue = false ∧ s.control.state = .running
      ∧ s.control.held = some { setup := plan, digest := 0x55 }
      ∧ s.capture.awaiting = [{ firstIndex := i, count := 1, adjusted := false, edges := 2048 }]
      ∧ s.capture.dut = some .measuring
      ∧ s.capture.reference = some { index := 0, delay := 1000, edges := 2048 * (i - 1) }
      ∧ s.capture.lastReading = some 1000
      ∧ s.capture.raw = some { epoch := 0, entries := [] ++ [40000, 0] }
      ∧ s.capture.afterAdjusted = 0 ∧ s.capture.slipBefore = false ∧ 2 ≤ i % 2048
      ∧ (i % 2048 < 2047 ∨ i % 2048 = 2047) ∧ s.epochs.capture = some (Context.fresh 0)
      ∧ s.engine.mode = some mode ∧ s.capture.tNomRounded = some 80000
      ∧ s.engine.stats = some EpochStats.start)
    ∧ (let tau : Nat := 2 ^ plan.exponent * 160000
       (((2048 * plan.tNom : Nat) : Int) - 65536 * ((tau : Int) + 2561000 - 1000)).natAbs
         ≤ 65536 * (tau / 64)) := by decide +kernel
/-- At sample 2, with F = 1000, x is 0: entries 40000, 0 meet the slip threshold and 40001, 0 pass it. -/
theorem witness_GoodSample_clauses :
    let x : Int := ((2 : Int) - 0) * (2 ^ 10 * 160000) + 1000 - 1000 - roundHalfUp ((2048 + 2048) * plan.tNom) 65536
    2 * 65536 * (x - 2 * 0 + 40000).natAbs ≤ plan.tNom
    ∧ plan.tNom < 2 * 65536 * (x - 2 * 0 + 40001).natAbs
    ∧ (sampling .hat 2 1000 40001 0 65534).capture.slips < 65535
    ∧ (sampling .hat 2 1000 40001 0 65535).capture.slips = 65535
    ∧ (sampling .period 2 1000 0 0 0).engine.mode = some .period
    ∧ 1000 < 81000 ∧ 81000 ≤ 20480000 := by decide +kernel

/-- A station whose timer runs for a sample of index `i`, adjusted or not, in a DUT state; its epoch is `n`. -/
def sampled (mode : AnalysisMode) (i : Nat) (adjusted : Bool) (d : DutState) (settle n : Nat) : State :=
  let s := sampling mode i 1000 0 0 0
  { s with
    capture := { s.capture with
      awaiting := [{ firstIndex := i, count := 1, adjusted := adjusted, edges := 2048 }]
      dut := some d, settle := some settle
      reference := if d = .absent then none else s.capture.reference }
    epochs := { s.epochs with counter := n, capture := some (Context.fresh n) } }
/-- SETTLING and adjusted samples at an epoch's boundary, inside it and at its last sample, in the first and the last
epoch; with F = 1000 the interval of a SETTLING sample is good. -/
theorem witness_Sample_settling_and_adjusted :
    (∀ mode ∈ [AnalysisMode.hat, .period], ∀ x ∈ [(1, 0), (2046, 0), (2047, 0), (2048, 1), (2047, 16777215)],
      ∀ adjusted, ∀ d ∈ [DutState.absent, .settling, .measuring], ∀ settle ∈ [0, 1],
        let s := sampled mode x.1 adjusted d settle x.2
        s.hold = .free ∧ s.control.presenceDue = false ∧ s.control.state = .running
        ∧ s.control.held = some { setup := plan, digest := 0x55 } ∧ s.capture.dut = some d
        ∧ s.capture.awaiting = [{ firstIndex := x.1, count := 1, adjusted := adjusted, edges := 2048 }]
        ∧ s.capture.raw = some { epoch := 0, entries := [0, 0] } ∧ 0 < x.1
        ∧ s.epochs.capture = some (Context.fresh x.2) ∧ s.capture.lastReading = some 1000
        ∧ s.engine.mode = some mode ∧ s.capture.settle = some settle)
    ∧ (let tau : Nat := 2 ^ plan.exponent * 160000
       (((2048 * plan.tNom : Nat) : Int) - 65536 * ((tau : Int) + 1000 - 1000)).natAbs ≤ 65536 * (tau / 64))
    ∧ (Context.fresh 16777214).epoch < 16777215 ∧ 16777215 ≤ (Context.fresh 16777215).epoch := by decide +kernel

/-- A station with the sample `i` to process, `edges` counted, and the marks of R16 and the last reading as given. -/
def exempt (mode : AnalysisMode) (d : DutState) (i edges : Nat) (last : Option Nat) (slip : Bool) (after : Nat) :
    State :=
  let s := sampled mode i false d 0 0
  s.withCapture { s.capture with
    awaiting := [{ firstIndex := i, count := 1, adjusted := false, edges := edges }]
    lastReading := last, slipBefore := slip, afterAdjusted := after }
/-- Samples of a MEASURING DUT that R16 exempts: entries 0 and 1, the one after a slip (entry 303 of the worked slip
case), and the two after an adjusted one; with a previous reading and without. -/
theorem witness_Sample_exempt :
    (∀ mode ∈ [AnalysisMode.hat, .period],
      ∀ x ∈ [(2048, false, 0), (2049, false, 0), (303, true, 0), (2047, true, 0), (304, false, 2),
        (305, false, 1)],
      ∀ last ∈ [none, some 1000],
        let s := exempt mode .measuring x.1 2048 last x.2.1 x.2.2
        s.hold = .free ∧ s.control.presenceDue = false ∧ s.control.state = .running
        ∧ s.control.held = some { setup := plan, digest := 0x55 } ∧ s.capture.dut = some .measuring
        ∧ s.capture.awaiting = [{ firstIndex := x.1, count := 1, adjusted := false, edges := 2048 }]
        ∧ s.capture.raw = some { epoch := 0, entries := [0, 0] } ∧ 0 < x.1
        ∧ s.epochs.capture = some (Context.fresh 0) ∧ s.engine.mode = some mode
        ∧ (x.1 % 2048 < 2 ∨ s.capture.slipBefore = true ∨ 0 < s.capture.afterAdjusted)
        ∧ s.capture.lastReading = last)
    ∧ 1 ≤ 2048 ∧ 1000 < 81000 ∧ 81000 ≤ 20480000 := by decide +kernel
/-- Worked slip case of spec 01: entry 303, 80,051 tu, follows the slip of entry 302 and is not checked: the count
stays at 18, and the next sample is checked again. -/
theorem test_sampleAfterSlip_unchecked :
    (let s := exempt .hat .measuring 303 2048 (some 81047) true 0
     let s := s.withCapture { s.capture with slips := 18, raw := some { epoch := 0, entries := [44, 80047] } }
     let t := after (.sampleEdgeTimed 81051 none) s
     (t.capture.raw.map (·.entries), t.capture.slips, t.capture.slipBefore)) =
      (some [44, 80047, 80051], 18, false) := by decide +kernel

theorem witness_LostSampleVoidsTheEpoch :
    ∀ i ∈ [2049, 2046, 2047, 4095],
      let s := sampling .hat i 1000 0 0 0
      s.hold = .free ∧ s.control.presenceDue = false ∧ s.control.state = .running
      ∧ s.control.held = some { setup := plan, digest := 0x55 }
      ∧ s.capture.awaiting = [{ firstIndex := i, count := 1, adjusted := false, edges := 2048 }]
      ∧ s.capture.dut = some .measuring ∧ DutState.measuring ≠ .absent
      ∧ s.capture.raw = some { epoch := 0, entries := [0, 0] } ∧ 1 ≤ i % 2048
      ∧ (i % 2048 < 2047 ∨ i % 2048 = 2047) := by
  decide +kernel

/-- Lost, wrong, unknown and re-acquiring samples of every DUT state, at a boundary of an epoch, inside it and at its
end: no edge or no counted one, an interval off by one tu more than 1/64, no previous reading, and a good interval. -/
theorem witness_Sample_moves_dut :
    (∀ mode ∈ [AnalysisMode.hat, .period], ∀ d ∈ [DutState.absent, .wrongFrequency, .settling, .measuring],
      ∀ i ∈ [1, 2047, 2048], ∀ edges ∈ [0, 1, 2048], ∀ last ∈ [none, some 1, some 1000], ∀ n ∈ [0, 1],
        let u := { plan with settleEpochs := n }
        let s := exempt mode d i edges last false 0
        let s := s.withControl { s.control with held := some { setup := u, digest := 0x55 } }
        s.hold = .free ∧ s.control.presenceDue = false ∧ s.control.state = .running
        ∧ s.control.held = some { setup := u, digest := 0x55 } ∧ s.capture.dut = some d
        ∧ s.capture.awaiting = [{ firstIndex := i, count := 1, adjusted := false, edges := edges }]
        ∧ s.capture.raw = some { epoch := 0, entries := [0, 0] } ∧ 0 < i
        ∧ s.epochs.capture = some (Context.fresh 0) ∧ s.engine.mode = some mode
        ∧ s.capture.lastReading = last ∧ (u.settleEpochs = 0 ∨ u.settleEpochs = 0 + 1))
    ∧ (let tau : Nat := 2 ^ plan.exponent * 160000
       65536 * (tau / 64) < (((2048 * plan.tNom : Nat) : Int) - 65536 * ((tau : Int) + 2560002 - 1)).natAbs
       ∧ (((2048 * plan.tNom : Nat) : Int) - 65536 * ((tau : Int) + 2560001 - 1)).natAbs ≤ 65536 * (tau / 64)) := by
  decide +kernel

/-- One tu inside the 1/64 of the interval, and one outside. -/
theorem witness_SampleClassMovesTheDutState :
    (let tau : Nat := 2 ^ plan.exponent * 160000
     (((2048 * plan.tNom : Nat) : Int) - 65536 * ((tau : Int) + 2560001 - 1)).natAbs ≤ 65536 * (tau / 64)
     ∧ 65536 * (tau / 64) < (((2048 * plan.tNom : Nat) : Int) - 65536 * ((tau : Int) + 2560002 - 1)).natAbs)
    ∧ ∀ d ∈ [DutState.absent, .wrongFrequency, .settling, .measuring],
      ((inState .running).withCapture { Capture.reset with dut := some d }).capture.dut = some d := by
  decide +kernel

theorem witness_VoidReasonsStandInOrder :
    ∀ v ∈ [none, some VoidReason.wander, some .disturbed, some .notMeasuring],
      ({ Context.fresh 0 with void := v }).void = v := by decide

/-- Δ = −335,380 leaves a remainder for residual 1, and one for y at p = 10. -/
theorem witness_ResidualsAndOffsetStayInRange :
    closeCase.length = 2048 ∧ closeCase.getD 2047 0 - closeCase.getD 0 0 = -335380
    ∧ 1 * (-335380) % 2047 ≠ 0 ∧ -335380 * 10 ^ 9 % (2047 * (2 ^ plan.exponent * 160000)) ≠ 0 := by
  decide +kernel

/-- A context whose only DONE pair has no summary. -/
def early : Context := { Context.fresh 1 with pairs := [done 9 1 1] }
/-- The last epoch before the run's last. -/
def closing (x : Option Context) : State :=
  exchanging.withEpochs { exchanging.epochs with
    counter := 16777214, capture := some (Context.fresh 16777214), exchange := x }
theorem witness_CloseMovesTheContextsOn :
    (∀ x ∈ [none, some early, some openContext, some { early with void := some .wander }],
      (closing x).epochs.capture = some (Context.fresh 16777214) ∧ (Context.fresh 16777214).epoch < 16777215
      ∧ (closing x).engine.inHand = none ∧ (closing x).engine.selfFor = none
      ∧ (closing x).epochs.exchange = x)
    ∧ ({ early with pairs := freezePairs early.pairs }).mayEarly = false
    ∧ ({ openContext with pairs := freezePairs openContext.pairs }).mayEarly = true := by decide +kernel
/-- Contexts that yield residuals and that do not, at epochs 0, 1 and 2, where the deadlines of the slots begin. -/
theorem witness_Close_ends :
    (∀ n ∈ [0, 1, 2], ∀ v ∈ [none, some VoidReason.wander, some .disturbed, some .notMeasuring],
      let c : Context := { Context.fresh n with void := v }
      let s := exchanging.withEpochs { exchanging.epochs with counter := n, capture := some c, exchange := none }
      s.epochs.capture = some c ∧ c.epoch < 16777215 ∧ s.engine.inHand = none ∧ s.engine.selfFor = none
      ∧ s.link.mode ≠ .stopped ∧ s.link.fifo = []
      ∧ ((c.finish plan [0, 0] none).void = none ↔ v = none))
    ∧ exchanging.engine.mode ≠ some .period
    ∧ ((Context.fresh 0).finish plan [0, -8388608] none).void
      = some .wander
    ∧ receivingPeers early.pairs = [] ∧ early.void = none := by decide +kernel
/-- The close of the last epoch, with and without a context in EXCHANGE. -/
theorem witness_Close_ends_the_run :
    ∀ x ∈ [none, some early, some { early with void := some .wander }],
      let s := (closing x).withEpochs { (closing x).epochs with
        counter := 16777215, capture := some (Context.fresh 16777215) }
      s.control.held = some { setup := plan, digest := 0x55 } ∧ s.epochs.capture = some (Context.fresh 16777215)
      ∧ (Context.fresh 16777215).epoch = 16777215 ∧ s.engine.inHand = none ∧ s.engine.selfFor = none
      ∧ s.link.mode ≠ .stopped ∧ s.link.fifo = [] ∧ s.link.opened = none ∧ s.epochs.exchange = x
      ∧ receivingPeers early.pairs = [] := by decide +kernel
/-- Slots with a record of the deadline's epoch, 1, and of another. -/
theorem witness_Close_slots :
    (Slot.empty.state = .empty ∧ Slot.empty.successor = none)
    ∧ ownPhase.header.epoch = 1 ∧ closeVerdict.header.epoch ≠ 1
    ∧ (unsent ownPhase).state = .unsent ownPhase ∧ (unsent ownPhase).successor = none
    ∧ (onLink ownPhase false true).state = .onLink ownPhase false true
    ∧ ({ onLink ownPhase false true with successor := some ownPhase }).successor = some ownPhase
    ∧ done 9 1 1 ∈ early.pairs := by decide
/-- Roster entries at a deadline: excused by each of the three grounds, and not; QUIET at 2 and at 3 missed. -/
theorem witness_Close_roster :
    (let e := RosterEntry.fresh 9
     (e.run = none ∧ e.runState = none ∧ e.dut = none)
     ∧ ({ e with run := some 8 }).run = some 8 ∧ 8 ≠ 7
     ∧ ({ e with runState := some .ready }).runState = some RunState.ready ∧ RunState.ready ≠ .running
     ∧ ({ e with dut := some .absent }).dut = some DutReport.absent ∧ DutReport.absent ≠ .measuring)
    ∧ min 255 (2 + 1) < 4 ∧ 4 ≤ min 255 (3 + 1) ∧ min 255 (255 + 1) = 255
    ∧ ∀ st ∈ [PeerState.unheard, .heard, .partner, .quiet, .alien, .suspect],
      ({ RosterEntry.fresh 9 with state := st }).state = st := by decide

theorem witness_PeriodValuesFollowTheStatistics : [(-3 : Int)] ≠ [] := by decide

theorem witness_SelfValuesAreWrittenTogether :
    let s := exchanging.withEngine { exchanging.engine with selfFor := some 1, closeHold := true }
    s.atRest ∧ s.engine.selfFor = some 1
    ∧ s.engine.ownStore = some { epoch := 1, residuals := List.replicate 2048 0 }
    ∧ s.epochs.exchange = some openContext ∧ openContext.epoch = 1 := by
  unfold State.atRest; decide +kernel

theorem witness_RunningSumsAreTheScaleSums : (List.replicate 2048 (0 : Int)).length = 2048 := by
  decide +kernel

theorem witness_BothEndsFormTheSamePairValues : [(1 : Int), 2].length = [(3 : Int), 4].length := by decide

/-! ### PHASE frames -/

/-- A FIFO entry with a frame of a kind, an index and a payload length. -/
def entry (k : FrameKind) (index length : Nat) : FifoEntry :=
  { frame := some { kind := k, index := index, payload := List.replicate length 0 }, lost := false }
/-- A record open in assembly, its oldest frame in the FIFO. -/
def opening (o : OpenRecord) (e : FifoEntry) (c : Context) : State :=
  (exchangingWith c).withLink { exchanging.link with opened := some o, fifo := [e] }
/-- A PHASE not yet classified. -/
def phaseOf (source epoch frames : Nat) : OpenRecord :=
  { header := head 2 source epoch frames, taken := 0, holding := .unclassified, counted := false }

/-- A current PHASE of station 9 open at a close, with its FIRST frame in the FIFO or with frames taken. -/
theorem witness_Close_abandons :
    ∀ x ∈ [(0, [entry .first 0 128]), (1, []), (48, [])],
      let c := { openContext with pairs := setPair 9 (.receiving (List.replicate 8 0) 0) openContext.pairs }
      let o : OpenRecord := { phaseOf 9 1 49 with taken := x.1, holding := .current }
      let s := (exchangingWith c).withLink { exchanging.link with opened := some o, fifo := x.2 }
      s.epochs.capture = some (Context.fresh 2) ∧ s.engine.inHand = none ∧ s.engine.selfFor = none
      ∧ s.epochs.exchange = some c ∧ c.void = none ∧ s.engine.mode ≠ some .period
      ∧ s.link.opened = some o ∧ o.holding = .current ∧ s.link.fifo = x.2
      ∧ receivingPeers c.pairs = [o.header.source] ∧ (entry .first 0 128).lost = false := by decide +kernel

/-- A PHASE of station 23, for an entry in NONE and in BROKEN. -/
theorem witness_CurrentPhaseOpensItsPairEntry :
    ∀ st ∈ [PairState.none, .broken],
      let c := { openContext with pairs := setPair 23 st openContext.pairs }
      let s := opening (phaseOf 23 1 49) (entry .first 0 128) c
      s.hold = .free ∧ s.control.presenceDue = false ∧ s.link.opened = some (phaseOf 23 1 49)
      ∧ s.link.fifo = entry .first 0 128 :: [] ∧ s.engine.inHand = none ∧ s.control.state = .running
      ∧ s.engine.mode = some .hat ∧ 23 ≠ s.control.number ∧ (head 2 23 1 49).run = s.epochs.runNumber
      ∧ (head 2 23 1 49).digest = s.ownDigest ∧ s.epochs.exchange = some c ∧ c.epoch = 1
      ∧ s.epochs.counter = 1 + 1 ∧ c.void = none ∧ pairOf c.pairs 23 = some st := by decide +kernel

/-- PHASE records of number 24, of the station's own, of 48 frames; of another epoch, for a void context, for
a DONE entry. -/
theorem witness_OtherPhasesAreDiscarded :
    (∀ o ∈ [phaseOf 24 1 49, phaseOf 5 1 49, phaseOf 9 1 48, phaseOf 9 0 49, phaseOf 9 2 49, phaseOf 9 1 49],
      ∀ c ∈ [openContext, { openContext with void := some .disturbed },
          { openContext with pairs := [done 9 1 1] }],
        let s := opening o (entry .first 0 128) c
        s.hold = .free ∧ s.control.presenceDue = false ∧ s.link.opened = some o
        ∧ s.link.fifo = [entry .first 0 128] ∧ s.engine.inHand = none ∧ s.epochs.exchange = some c
        ∧ c.epoch + 1 = s.epochs.counter ∧ s.control.state = .running ∧ s.engine.mode = some .hat
        ∧ o.header.run = s.epochs.runNumber ∧ o.header.digest = s.ownDigest)
    ∧ pairOf [done 9 1 1] 9 = some (.done (two 1 1)) := by decide +kernel
/-- PHASE records that R36 refuses, in every run state and with RUN_MISSED clear and set; an empty EXCHANGE; and a
PERIOD run. -/
theorem witness_OtherPhases_refused :
    (∀ st ∈ [RunState.awaitSetup, .ready, .barrier, .running], ∀ set ∈ [(0 : Events), 0x40],
      ∀ h ∈ [head 2 9 1 49, { head 2 9 1 49 with run := 8 }, { head 2 9 1 49 with digest := 0x54 }],
        let o : OpenRecord := { phaseOf 9 1 49 with header := h }
        let s := opening o (entry .first 0 128) openContext
        let s := { s with control := { s.control with state := st }, verdicts := { s.verdicts with events := set } }
        s.hold = .free ∧ s.control.presenceDue = false ∧ s.link.opened = some o
        ∧ s.link.fifo = [entry .first 0 128] ∧ o.holding = .unclassified ∧ s.engine.inHand = none
        ∧ s.control.state = st ∧ s.epochs.runNumber = 7 ∧ s.ownDigest = 0x55
        ∧ Event.runMissed.isIn s.verdicts.events = decide (set ≠ 0))
    ∧ (let s := (opening (phaseOf 9 1 49) (entry .first 0 128) openContext).withEpochs
         { exchanging.epochs with exchange := none }
       s.epochs.exchange = none ∧ s.engine.mode = some .hat ∧ s.control.state = .running)
    ∧ (let s := (opening (phaseOf 9 1 49) (entry .first 0 128) openContext).withEngine
         { exchanging.engine with mode := some .period }
       s.engine.mode = some .period ∧ s.control.state = .running ∧ s.engine.inHand = none) := by decide +kernel

/-- Frames 0, 1, 47 and 48 of a current PHASE. -/
theorem witness_EngineTakesTheOldestFrameUnlessHeld :
    (∀ x ∈ [(0, entry .first 0 128), (1, entry .middle 1 128), (47, entry .middle 47 128),
        (48, entry .last 48 9)],
      let o : OpenRecord := { phaseOf 23 1 49 with taken := x.1, holding := .current }
      let s := opening o x.2 openContext
      s.hold = .free ∧ s.control.presenceDue = false ∧ s.link.opened = some o ∧ s.link.fifo = [x.2]
      ∧ s.engine.closeHold = false ∧ s.solver.running = none ∧ s.engine.inHand = none)
    ∧ (exchanging.withEngine { exchanging.engine with closeHold := true }).engine.closeHold = true
    ∧ (let r : RunningSolve := { context := Context.fresh 0, suspects := [] }
       (exchanging.withSolver { running := some r, waiting := [] }).solver.running = some r
         ∧ r.context.void = none ∧ exchanging.engine.mode = some .hat) := by decide +kernel

/-- Frames of a current PHASE that assembly does not accept: an index too high, a short MIDDLE, one beyond the frame
count, and a LAST too early. -/
theorem witness_Engine_refuses :
    ∀ x ∈ [(1, entry .middle 2 128), (1, entry .middle 1 127), (48, entry .middle 48 128), (47, entry .last 47 9)],
      let c := { openContext with pairs := setPair 9 (.receiving (List.replicate 8 0) 0) openContext.pairs }
      let o : OpenRecord := { phaseOf 9 1 49 with taken := x.1, holding := .current }
      let s := opening o x.2 c
      s.hold = .free ∧ s.control.presenceDue = false ∧ s.link.opened = some o ∧ s.link.fifo = [x.2]
      ∧ x.2.lost = false ∧ s.engine.closeHold = false ∧ s.solver.running = none ∧ s.engine.inHand = none
      ∧ 1 ≤ o.taken ∧ o.counted = false ∧ s.epochs.exchange = some c
      ∧ pairOf c.pairs o.header.source = some (.receiving (List.replicate 8 0) 0)
      ∧ ∃ f ∈ x.2.frame, f.kind = .middle
          ∧ ¬(f.index = o.taken ∧ o.taken + 1 < o.header.frames ∧ f.payload.length = 128)
        ∨ f.kind = .last ∧ ¬(f.index = o.taken ∧ o.taken + 1 = o.header.frames) := by decide +kernel

theorem witness_FinishedFrameUpdatesItsPairEntry :
    ∀ f ∈ [FrameInHand.mk 9 (List.replicate 119 0) false, FrameInHand.mk 9 (List.replicate 9 0) true,
        FrameInHand.mk 9 (List.replicate 10 0) true],
      let c := { openContext with pairs := setPair 9 (.receiving (List.replicate 8 0) 0) openContext.pairs }
      let s := (exchangingWith c).withEngine { exchanging.engine with inHand := some f }
      s.hold = .free ∧ s.control.presenceDue = false ∧ s.engine.inHand = some f ∧ s.epochs.exchange = some c
      ∧ s.engine.ownStore = some { epoch := 1, residuals := List.replicate 2048 0 }
      ∧ pairOf c.pairs f.peer = some (.receiving (List.replicate 8 0) 0) := by decide +kernel

/-! ### Solves -/

/-- A station whose solver holds these. -/
def solving (mode : AnalysisMode) (running : Option RunningSolve) (waiting : List Context) : State :=
  (exchanging.withEngine { exchanging.engine with mode := some mode }).withSolver
    { running := running, waiting := waiting }
/-- A context with a void reason. -/
def voided (v : Option VoidReason) : Context := { Context.fresh 0 with void := v }

theorem witness_SolveBeginsWithTheSuspectReading :
    ∀ mode ∈ [AnalysisMode.hat, .period], ∀ v ∈ [none, some VoidReason.disturbed],
      let s := solving mode none [voided v]
      s.hold = .free ∧ s.control.presenceDue = false ∧ s.solver.running = none ∧ s.engine.inHand = none
      ∧ s.solver.waiting = voided v :: [] ∧ (voided v).void = v ∧ s.engine.mode = some mode := by
  decide +kernel

theorem witness_VoidAndPeriodSolvesGiveTheirVerdicts :
    (∀ v ∈ [some VoidReason.notMeasuring, some .disturbed, some .wander],
      let r : RunningSolve := { context := voided v, suspects := [] }
      let s := solving .hat (some r) []
      s.hold = .free ∧ s.control.presenceDue = false ∧ s.solver.running = some r ∧ s.solver.waiting = []
      ∧ s.control.held = some { setup := plan, digest := 0x55 } ∧ r.context.void = v)
    ∧ (let v : PeriodValues := { variance := 12, rms := 3, peak := 30 }
       let c := { Context.fresh 0 with y := some 2000000, period := some v }
       let s := solving .period (some { context := c, suspects := [] }) []
       s.hold = .free ∧ s.control.presenceDue = false ∧ s.engine.mode = some .period ∧ c.void = none
       ∧ c.period = some v ∧ offFrequency plan c.y = false
       ∧ offFrequency { plan with tolerance := 2000000 } c.y = false
       ∧ offFrequency { plan with tolerance := 1999999 } c.y = true) := by decide +kernel
/-- Solves that wait behind the running one, measured or void, with and without a frame in hand. -/
theorem witness_Solve_waiting :
    ∀ waiting ∈ [[], [fourStations], [voided (some .wander), fourStations]],
      ∀ hand ∈ [none, some (FrameInHand.mk 9 [] false)], ∀ v ∈ [none, some VoidReason.wander],
        let r : RunningSolve := { context := { fourStations with void := v }, suspects := [] }
        let s := solving .hat (some r) waiting
        let s := s.withEngine { s.engine with inHand := hand }
        s.hold = .free ∧ s.control.presenceDue = false ∧ s.solver.running = some r
        ∧ s.solver.waiting = waiting ∧ s.engine.inHand = hand ∧ s.engine.mode = some .hat
        ∧ s.control.held = some { setup := plan, digest := 0x55 } ∧ r.context.void = v
        ∧ s.link.mode ≠ .stopped := by decide +kernel

/-- A SEPARATED solve, and one over the station alone. -/
theorem witness_MeasuredSolveReachesVerdictAndRoster :
    (∀ c ∈ [fourStations, { fourStations with summaries := [] }],
      let r : RunningSolve := { context := c, suspects := [] }
      let s := solving .hat (some r) []
      s.hold = .free ∧ s.control.presenceDue = false ∧ s.solver.running = some r ∧ s.solver.waiting = []
      ∧ s.control.held = some { setup := plan, digest := 0x55 } ∧ c.void = none
      ∧ s.engine.mode = some .hat ∧ s.link.mode ≠ .stopped)
    ∧ (measuredResult 5 3 fourStations []).grade = .separated
    ∧ (measuredResult 5 3 { fourStations with summaries := [] } []).grade ≠ .separated := by decide +kernel

/-- An entry of peer 9 at the ends of the clauses' ranges. -/
theorem witness_SolveChargesAndReadmits :
    (let r : RunningSolve := { context := fourStations, suspects := [] }
     let s := solving .hat (some r) []
     s.hold = .free ∧ s.control.presenceDue = false ∧ s.solver.running = some r ∧ r.context.void = none
     ∧ s.engine.mode = some .hat)
    ∧ (RosterEntry.fresh 9).peer ∈ [9] ∧ (RosterEntry.fresh 9).peer ∉ [2]
    ∧ (RosterEntry.fresh 9).state ≠ .suspect
    ∧ ∀ m ∈ [0, 1, 3, 4, 255], ({ RosterEntry.fresh 9 with state := .suspect, missed := m }).state = .suspect := by
  decide

/-- The worked stations of spec 08: tables with one entry a peer and one row a source and peer, and solving sets of
two peers, of one and of none. -/
theorem witness_Solve_sets :
    (∀ c ∈ [fourStations, fiveStations, { fourStations with summaries := [row 2 [(5, 900, 400)]] },
        { fourStations with summaries := [] }],
      c.pairs.Pairwise (fun a b => a.peer ≠ b.peer) ∧ c.summaries.Pairwise (fun a b => a.source ≠ b.source)
      ∧ (∀ m ∈ c.summaries, m.entries.Pairwise fun a b => a.peer ≠ b.peer)
      ∧ c.selfValues = some (two 7 7))
    ∧ solvingPeers 5 fiveStations [] = [2, 9]
    ∧ solvingPeers 5 { fourStations with summaries := [row 2 [(5, 900, 400)]] } [] = [2]
    ∧ solvingPeers 5 { fourStations with summaries := [] } [] = [] := by decide +kernel

theorem witness_SeparationFindsTheOwnValueAndRounds :
    2 ≤ [1300, 1000].length ∧ numerator 3 250 500 = 0 ∧ numerator 3 250 500 ≤ 0 ∧ 0 < numerator 3 250 499 := by
  decide

/-! ### Verdicts -/

/-- Values that exceed L_0 = 22 tu, stand at both ends of the marginal range, or lie within it; and a figure
that alone exceeds. -/
theorem witness_OutcomesGiveTheVerdict :
    [485, 484, 371, 370].map (fun q => standing (valueAt (two q 0) 0) (valueAt plan.limits 0))
      = [.exceeded, .marginal, .marginal, .within]
    ∧ (∀ w ∈ [Standing.exceeded, .marginal], ∀ k < 8,
        standing (valueAt (two 0 0) k) (valueAt plan.limits k) ≠ w)
    ∧ standing 485 { plan with figureLimit := 22 }.figureLimit = .exceeded
    ∧ standing 484 { plan with figureLimit := 22 }.figureLimit = .marginal := by decide +kernel

theorem witness_HistoryRingKeepsTheNewestEight :
    (List.replicate 8 (entryOf 7 1 verdict9)).length ≤ 8 ∧ ([] : List HistoryEntry).length ≤ 8 := by decide

theorem witness_RunCloseJudgesTheAverages :
    let v (separated bound : Nat) : VerdictUnit := { VerdictUnit.reset with
      separated := { AccSet.empty with count := separated }, bound := { AccSet.empty with count := bound } }
    let w (n : Nat) : VerdictUnit := { VerdictUnit.reset with period := { PeriodRun.empty with count := n } }
    plan.minEpochs ≤ (w 3).period.count ∧ (w 3).firstFailure = none ∧ (w 2).period.count < plan.minEpochs
    ∧ ({ v 0 0 with firstFailure := some .wander }).firstFailure = some .wander
    ∧ (v 3 0).firstFailure = none ∧ plan.minEpochs ≤ (v 3 0).separated.count
    ∧ (v 2 3).separated.count < plan.minEpochs ∧ plan.minEpochs ≤ (v 2 3).bound.count
    ∧ (v 2 2).separated.count < plan.minEpochs ∧ (v 2 2).bound.count < plan.minEpochs := by decide

theorem witness_CompletionClearsTheUnrenewedSnapshot :
    ({ VerdictUnit.reset with snapshot := some 0x05 }).snapshot = some 0x05 := by decide

/-! ### The outgoing queue and the link -/

theorem witness_OfferedRecordFindsItsPlace :
    (linkIn .stopped (inState .conflict)).link.mode = .stopped
    ∧ (∀ q ∈ [63, 64], let s := (inState .ready).withLink { Link.reset with mode := .idleWait, quiet := q }
      s.link.mode = .idleWait ∧ s.link.mode ≠ .stopped ∧ s.link.quiet = q ∧ s.drivesWait = false
      ∧ s.link.clearSeen = false ∧ (s.queue.get .verdict).state = .empty)
    ∧ Slot.empty.state = .empty
    ∧ (unsent ownVerdict).state = .unsent ownVerdict
    ∧ (onLink ownVerdict false true).state = .onLink ownVerdict false true
    ∧ (onLink ownVerdict false true).successor = none
    ∧ ({ onLink ownVerdict false true with successor := some closeVerdict }).successor = some closeVerdict := by
  decide

theorem witness_ArbitrationFavoursTheNextNumber : 0 = (31 + 1) % 32 ∧ 31 ≤ 31 := by decide

theorem witness_GapAndFieldBeginContention :
    ∀ m ∈ [LinkMode.idleWait, .listening .between, .listening .fieldPending],
      ∀ s ∈ [linkIn m (inState .ready), linkIn m (queued .history (unsent ownVerdict) (inState .ready))],
        s.hold = .free ∧ s.control.presenceDue = false ∧ s.link.mode = m ∧ s.drivesWait = false
        ∧ s.link.clearSeen = false
        ∧ ((linkIn m (inState .ready)).queue.best = none
          ∧ (linkIn m (queued .history (unsent ownVerdict) (inState .ready))).queue.best ≠ none) := by
  decide +kernel

theorem witness_ArbitrationEndsInSendingOrListening :
    (let s := linkIn (.contending 0) (inState .ready)
     s.hold = .free ∧ s.control.presenceDue = false ∧ s.link.mode = .contending 0 ∧ s.queue.best = none)
    ∧ (let s := linkIn (.contending 0) (queued .verdict (unsent ownVerdict) (inState .ready))
       s.hold = .free ∧ s.queue.best = some .verdict
       ∧ (s.queue.get .verdict).state = .unsent ownVerdict)
    ∧ (queued .phase (onLink ownPhase false false) (queued .verdict (unsent ownVerdict)
        (inState .ready))).queue.best = some .verdict
    ∧ (queued .phase (unsent ownPhase) (queued .verdict (unsent ownVerdict)
        (inState .ready))).queue.best = some .phase := by decide +kernel

/-- A PHASE of 49 frames at its last frame gap. -/
theorem witness_SenderGoesFrameByFrame :
    ∀ p ∈ [SendPhase.inFrame, .awaitingTake, .awaitingGap],
      let s := linkIn (.sending .phase 47 p) (queued .phase (onLink ownPhase false false) (inState .running))
      s.hold = .free ∧ s.control.presenceDue = false ∧ s.link.mode = .sending .phase 47 p
      ∧ (s.queue.get .phase).state = .onLink ownPhase false false
      ∧ 47 + 1 < s.framesOf .phase ∧ s.drivesWait = false ∧ s.link.clearSeen = false := by decide +kernel

theorem witness_DeliveredRecordFreesItsSlot :
    ∀ p ∈ [SendPhase.inFrame, .awaitingTake], ∀ next ∈ [none, some closeVerdict],
      let sl : Slot := { state := .onLink ownVerdict false false, successor := next }
      let s := linkIn (.sending .verdict 0 p) (queued .verdict sl (inState .running))
      s.hold = .free ∧ s.control.presenceDue = false ∧ s.queue.get .verdict = sl
      ∧ ownVerdict.header.frames ≤ 0 + 1 ∧ s.link.mode = .sending .verdict 0 p := by decide +kernel

/-- A CLEAR run of 0, of 6 and of 7, and the fault flag already set. -/
theorem witness_StallAndMismatchIssueAClear :
    ∀ p ∈ [SendPhase.awaitingTake, .inFrame], ∀ x ∈ [(0, false), (6, false), (7, false), (7, true)],
      let s := linkIn (.sending .verdict 0 p) (queued .verdict (onLink ownVerdict false false) (inState .ready))
      let s := s.withLink { s.link with clearRun := x.1, faultFlag := x.2 }
      s.hold = .free ∧ s.control.presenceDue = false ∧ s.link.clearSeen = false
      ∧ s.link.mode = .sending .verdict 0 p ∧ s.link.faultFlag = x.2
      ∧ (min 8 (s.link.clearRun + 1) < 8 ∨ min 8 (s.link.clearRun + 1) = 8) := by decide +kernel

theorem witness_ClearAbortsAndBreaks :
    (∀ m ∈ [LinkMode.idleWait, .contending 0, .listening .inFrame],
      let s := linkIn m (inState .ready)
      s.hold = .free ∧ s.control.presenceDue = false ∧ s.link.clearSeen = false ∧ s.link.opened = none
      ∧ s.link.mode = m)
    ∧ (∀ x ∈ [(false, false), (true, false), (false, true), (true, true)],
      let s := linkIn (.sending .phase 0 .ceased) (queued .phase (onLink ownPhase x.1 x.2) (inState .running))
      s.hold = .free ∧ s.link.clearSeen = false ∧ s.link.opened = none
      ∧ s.link.mode = .sending .phase 0 .ceased
      ∧ s.queue.get .phase = { state := .onLink ownPhase x.1 x.2, successor := none })
    ∧ (let c := { openContext with pairs := setPair 9 (.receiving (List.replicate 8 0) 0) openContext.pairs }
       let o : OpenRecord := { phaseOf 9 1 49 with taken := 1, holding := .current }
       ∀ m ∈ [LinkMode.idleWait, .contending 0, .listening .inFrame, .listening .between,
           .sending .phase 0 .ceased, .sending .verdict 0 .inFrame],
         let s := linkIn m (opening o (entry .middle 1 128) c)
         s.hold = .free ∧ s.control.presenceDue = false ∧ s.link.clearSeen = false
         ∧ s.link.mode = m ∧ s.link.opened = some o ∧ o.holding = .current ∧ o.counted = false
         ∧ s.epochs.exchange = some c
         ∧ pairOf c.pairs o.header.source = some (.receiving (List.replicate 8 0) 0)) := by decide +kernel

/-- A sender whose slot has a successor, and a station, a sender among them, with a record open that is
no current PHASE. -/
theorem witness_Clear_successor :
    (∀ x ∈ [(SlotKind.presence, ownPhase, ownPhase), (.verdict, ownVerdict, closeVerdict),
        (.verdict, closeVerdict, ownVerdict), (.phase, ownPhase, ownPhase)],
      ∀ past ended,
        let sl : Slot := { state := .onLink x.2.1 past ended, successor := some x.2.2 }
        let s := linkIn (.sending x.1 0 .ceased) (queued x.1 sl (inState .running))
        s.hold = .free ∧ s.control.presenceDue = false ∧ s.link.clearSeen = false ∧ s.link.opened = none
        ∧ s.link.mode = .sending x.1 0 .ceased ∧ s.queue.get x.1 = sl)
    ∧ closeVerdict.isRunClose = true ∧ ownVerdict.isRunClose = false
    ∧ (∀ g ∈ [Holding.unclassified, .discarded, .buffered []], ∀ counted,
      ∀ m ∈ [LinkMode.idleWait, .contending 0, .listening .between, .sending .verdict 0 .ceased],
        let o : OpenRecord := { phaseOf 9 1 49 with taken := 1, holding := g, counted := counted }
        let s := (inState .ready).withLink { Link.reset with mode := m, opened := some o }
        s.hold = .free ∧ s.control.presenceDue = false ∧ s.link.clearSeen = false ∧ s.link.opened = some o
        ∧ s.link.mode = m) := by decide +kernel

/-- A station whose FIFO is full, with nothing open in assembly. -/
def waiting : State :=
  (inState .ready).withLink { Link.reset with fifo := List.replicate 4 (entry .middle 1 128) }
theorem witness_ClearEndAndHoldLimitSettleWait :
    (let s := (inState .ready).withLink { Link.reset with clearSeen := true }
     s.hold = .free ∧ s.control.presenceDue = false ∧ s.link.clearSeen = true ∧ s.link.clearPulse = false
     ∧ s.link.fifo = [] ∧ s.link.mode ≠ .stopped)
    ∧ waiting.hold = .free ∧ waiting.control.presenceDue = false ∧ waiting.drivesWait = true
    ∧ waiting.link.opened = none ∧ (atBarrier plan false).drivesWait = true
    ∧ (atBarrier plan false).link.opened = none := by decide +kernel
/-- The hold limit with a record open: buffered, unclassified, discarded and current, counted or not. -/
theorem witness_HoldLimit_breaks :
    (∀ g ∈ [Holding.unclassified, .discarded, .buffered [], .current], ∀ counted,
      let o : OpenRecord := { phaseOf 9 1 49 with taken := 1, holding := g, counted := counted }
      let s := waiting.withLink { waiting.link with opened := some o }
      s.hold = .free ∧ s.control.presenceDue = false ∧ s.drivesWait = true ∧ s.link.opened = some o)
    ∧ (let c := { openContext with pairs := setPair 9 (.receiving (List.replicate 8 0) 0) openContext.pairs }
       let o : OpenRecord := { phaseOf 9 1 49 with taken := 1, holding := .current }
       let s := (exchangingWith c).withLink { waiting.link with opened := some o }
       s.hold = .free ∧ s.control.presenceDue = false ∧ s.drivesWait = true ∧ s.link.opened = some o
       ∧ o.counted = false ∧ s.epochs.exchange = some c
       ∧ pairOf c.pairs o.header.source = some (.receiving (List.replicate 8 0) 0)) := by decide +kernel

theorem witness_StartBitIsToldByTheQuietCount :
    ∀ m ∈ [LinkMode.listening .fieldPending, .listening .between, .idleWait],
      (linkIn m (inState .ready)).hold = .free ∧ (linkIn m (inState .ready)).control.presenceDue = false
      ∧ (linkIn m (inState .ready)).link.mode = m ∧ (linkIn m (inState .ready)).link.mode ≠ .stopped := by
  decide +kernel

/-- A frame with record bytes of its kind's full length. -/
def frameWith (k : FrameKind) (kind frames : Nat) : Frame :=
  frameOf (frameHeader k 0 128) ((head kind 9 1 frames).bytes ++ List.replicate 119 0)
theorem witness_ReceivedFrame_state :
    receiving.hold = .free ∧ receiving.control.presenceDue = false
    ∧ receiving.link.mode = .listening .inFrame ∧ receiving.link.fifo = [] ∧ receiving.link.opened = none
    ∧ receiving.link.handOn = none := by decide +kernel
theorem witness_ReceivedFrame_only :
    (∀ h ∈ [head 1 5 0 1, head 10 31 0 1, head 1 9 0 1, head 7 9 0 1, head 1 32 0 1, head 1 9 0 2],
      let f := onlyFrame h.bytes
      f.ok = true ∧ frameGood f = true ∧ frameKindOf f = .only ∧ frameIndexOf f = 0 ∧ 9 ≤ f.payload.length
      ∧ Header.ofBytes f.payload = h)
    ∧ checkRecord (head 1 32 0 1).bytes = .discarded
    ∧ checkRecord (head 10 31 0 1).bytes = .passed { header := head 10 31 0 1, body := .stop }
    ∧ checkRecord (head 1 9 0 1).bytes = .malformed ∧ checkRecord (head 7 9 0 1).bytes = .discarded := by
  decide +kernel
theorem witness_ReceivedFrame_longer :
    (∀ x ∈ [(FrameKind.first, 3, 1), (.first, 3, 2), (.first, 5, 128), (.first, 5, 129), (.first, 2, 49),
        (.middle, 3, 11), (.last, 3, 11)],
      let f := frameWith x.1 x.2.1 x.2.2
      f.ok = true ∧ frameKindOf f = x.1 ∧ frameIndexOf f = 0 ∧ f.payload.length = 128
      ∧ (Header.ofBytes f.payload).kind = x.2.1 ∧ (Header.ofBytes f.payload).frames = x.2.2)
    ∧ (∀ k kind frames, frameGood (frameWith k kind frames) = true)
    ∧ (let f := { onlyFrame (head 10 31 0 1).bytes with crc := 0 }
       f.ok = true ∧ frameGood f = false) :=
  ⟨by decide +kernel, fun _ _ _ => by simp [frameGood, frameWith, frameOf], by decide +kernel⟩
theorem witness_ReceivedFrame_take :
    (List.replicate 3 (entry .middle 1 128)).length < 4 ∧ (List.replicate 3 (entry .middle 1 128)).length = 3
    ∧ waiting.hold = .free ∧ waiting.link.mode ≠ .stopped ∧ waiting.link.clearSeen = false := by decide +kernel

/-- A frame of a kind and an index with `length` zero bytes, and the same with a bad CRC. -/
def laterFrame (k : FrameKind) (index length : Nat) : Frame :=
  frameOf (frameHeader k index length) (List.replicate length 0)
def badFrame : Frame := { laterFrame .last 1 5 with crc := 0 }
/-- A station amid a frame, with a record open in assembly. -/
def amid (o : OpenRecord) : State := receiving.withLink { receiving.link with opened := some o }
/-- MIDDLE frames 1, 10 and 47, LAST frames 1, 10 and 48, and frames out of sequence. -/
theorem witness_ReceivedFrame_later :
    (∀ x ∈ [(FrameKind.middle, 1, 128), (.middle, 10, 128), (.middle, 47, 128), (.last, 1, 5), (.last, 10, 5),
        (.last, 48, 9), (.last, 48, 8), (.middle, 1, 127), (.first, 0, 128), (.only, 0, 9)],
      let f := laterFrame x.1 x.2.1 x.2.2
      f.ok = true ∧ frameKindOf f = x.1 ∧ frameIndexOf f = x.2.1 ∧ f.payload.length = x.2.2)
    ∧ (∀ k index length, frameGood (laterFrame k index length) = true)
    ∧ badFrame.ok = true ∧ frameGood badFrame = false
    ∧ 128 * (49 - 1) + 9 = 6153 ∧ 128 * (49 - 1) + 8 ≠ 6153 :=
  ⟨by decide +kernel, fun _ _ _ => by simp [frameGood, laterFrame, frameOf], by decide +kernel⟩
/-- An open record in each holding, with 1, 10 and 11 frames taken, and 48 of a PHASE. -/
theorem witness_ReceivedFrame_open :
    (∀ g ∈ [Holding.discarded, .buffered (List.replicate 128 0), .current],
      ∀ x ∈ [(1, 2), (1, 49), (10, 11), (10, 12), (11, 12), (48, 49)], ∀ counted, ∀ j ∈ [5, 9, 23, 24, 31, 32],
        let o : OpenRecord := { header := head 2 j 1 x.2, taken := x.1, holding := g, counted := counted }
        (amid o).hold = .free ∧ (amid o).control.presenceDue = false
        ∧ (amid o).link.mode = .listening .inFrame ∧ (amid o).link.fifo = [] ∧ (amid o).link.opened = some o
        ∧ (amid o).link.handOn = none ∧ 1 ≤ o.taken ∧ (j = 5 ↔ j = (amid o).control.number))
    ∧ (let c := { openContext with pairs := setPair 9 (.receiving (List.replicate 8 0) 0) openContext.pairs }
       let o : OpenRecord := { phaseOf 9 1 49 with taken := 1, holding := .current }
       let s := linkIn (.listening .inFrame)
         ((exchangingWith c).withLink { exchanging.link with opened := some o })
       s.hold = .free ∧ s.link.mode = .listening .inFrame ∧ s.link.opened = some o ∧ o.counted = false
       ∧ s.epochs.exchange = some c
       ∧ pairOf c.pairs o.header.source = some (.receiving (List.replicate 8 0) 0)) := by decide +kernel
/-- Whole records of two frames: passed, malformed, discarded, and of the station's own number. -/
theorem witness_ReceivedFrame_whole :
    let es : List SummaryEntry := [{ peer := 2, values := two 1 2 }, { peer := 14, values := two 3 4 },
      { peer := 23, values := two 5 6 }]
    let whole (h : Header) : List Byte := Record.bytes { header := h, body := .summary es }
    checkRecord (whole (head 3 9 1 2)) = .passed { header := head 3 9 1 2, body := .summary es }
    ∧ checkRecord (whole (head 3 9 1 2)).dropLast = .malformed ∧ checkRecord (whole (head 7 9 1 2)) = .discarded
    ∧ (Header.ofBytes (whole (head 3 5 1 2))).source = receiving.control.number
    ∧ (whole (head 3 9 1 2)).take 128 ++ (whole (head 3 9 1 2)).drop 128 = whole (head 3 9 1 2)
    ∧ 128 < (whole (head 3 9 1 2)).length := by decide +kernel

/-! ### Records and run control -/

/-- A record from station 23 handed on at station 5 in its run. -/
def given (kind : Nat) (b : RxBody) (st : RunState) : State :=
  handed (.record { header := head kind 23 1 1, body := b })
    { exchanging with control := { exchanging.control with state := st } }

theorem witness_HeardRecordsMoveThePeersEntry :
    (∀ x ∈ [(1, RxBody.presence presence9), (5, .history), (4, .verdict verdict9),
        (4, .verdict { verdict9 with runClose := true })],
      let s := given x.1 x.2 .running
      s.hold = .free ∧ s.control.presenceDue = false
      ∧ s.link.handOn = some (.record { header := head x.1 23 1 1, body := x.2 }) ∧ s.link.fifo = []
      ∧ 23 ≠ s.control.number ∧ (head x.1 23 1 1).run = s.epochs.runNumber ∧ s.roster = [])
    ∧ (RosterEntry.fresh 23).verdictId ≠ some (7, 1)
    ∧ (head 4 23 1 1).run ≠ (inState .ready).epochs.runNumber ∧ verdict9.runClose = false
    ∧ ({ RosterEntry.fresh 23 with verdictId := some (7, 1) }).verdictId = some (7, 1)
    ∧ (given 1 .history .running).rosterSound := by
  unfold State.rosterSound; decide +kernel

/-- A SUMMARY of station 23 for epoch 1, stored, duplicate, unpaired, in SUMMARY_WAIT, and late, in a HAT and a PERIOD run. -/
theorem witness_SummaryIsStoredOrCounted :
    let r : RxRecord := { header := head 3 23 1 1, body := .summary [] }
    let m : Summary := { source := 23, entries := [] }
    (∀ mode ∈ [AnalysisMode.hat, .period],
      ∀ c ∈ [openContext, { openContext with summaries := [m] }, { openContext with void := some .wander },
        early],
      ∀ x ∈ [(some c, none), (some { c with epoch := 2 }, some c), (none, some c),
          (some { c with epoch := 2 }, some { c with epoch := 0 }), (none, none)],
        let s := handed (.record r)
          (exchanging.withEpochs { exchanging.epochs with exchange := x.1, summaryWait := x.2 })
        let s := s.withEngine { s.engine with mode := some mode }
        s.engine.mode = some mode ∧ s.hold = .free ∧ s.control.presenceDue = false ∧ s.link.handOn = some (.record r) ∧ s.link.fifo = []
        ∧ s.control.state = .running ∧ r.header.run = s.epochs.runNumber ∧ r.header.digest = s.ownDigest
        ∧ s.epochs.exchange = x.1 ∧ s.epochs.summaryWait = x.2 ∧ c.epoch = r.header.epoch)
    ∧ ({ early with summaries := early.summaries ++ [m] }).mayEarly = false
    ∧ ({ openContext with summaries := openContext.summaries ++ [m] }).mayEarly = true
    ∧ ({ openContext with epoch := 2 }).epoch ≠ r.header.epoch := by decide +kernel
/-- R125, R159: a SUMMARY that a HAT run stores leaves the store of a PERIOD run empty. -/
theorem test_summary_period_unstored :
    [AnalysisMode.hat, .period].map (fun mode =>
      let s := handed (.record { header := head 3 23 1 1, body := .summary [] }) exchanging
      let t := after .summaryRecord (s.withEngine { s.engine with mode := some mode })
      t.epochs.exchange.map (·.summaries.length)) = [some 1, some 0] := by decide +kernel
/-- A SUMMARY that R36 refuses, in every run state and with RUN_MISSED clear and set. -/
theorem witness_Summary_refused :
    ∀ st ∈ [RunState.awaitSetup, .ready, .barrier, .running], ∀ set ∈ [(0 : Events), 0x40],
      ∀ h ∈ [head 3 23 1 1, { head 3 23 1 1 with run := 8 }, { head 3 23 1 1 with digest := 0x54 }],
        let s := handed (.record { header := h, body := .summary [] }) { exchanging with
          control := { exchanging.control with state := st }
          verdicts := { exchanging.verdicts with events := set } }
        s.hold = .free ∧ s.control.presenceDue = false ∧ s.link.fifo = [] ∧ s.control.state = st
        ∧ s.link.handOn = some (.record { header := h, body := .summary [] })
        ∧ s.epochs.runNumber = 7 ∧ s.ownDigest = 0x55
        ∧ Event.runMissed.isIn s.verdicts.events = decide (set ≠ 0) := by decide +kernel

theorem witness_NumberConflictStopsTheStation :
    (handed .conflict exchanging).hold = .free ∧ (handed .conflict exchanging).control.presenceDue = false
    ∧ (handed .conflict exchanging).link.handOn = some .conflict := by decide +kernel

theorem witness_SetupIsClampedOrRefused :
    (∀ t ∈ [32000 * 65536 - 1, 32000 * 65536, 8000000 * 65536, 8000000 * 65536 + 1],
      ∀ st ∈ [RunState.awaitSetup, .ready, .barrier, .running],
        let s := given 8 (.setup (setupFields t)) st
        s.hold = .free ∧ s.control.presenceDue = false ∧ s.link.fifo = [] ∧ s.control.state = st
        ∧ s.link.handOn = some (.record { header := head 8 23 1 1, body := .setup (setupFields t) })) := by
  decide +kernel

theorem witness_StartEntersTheBarrier :
    (∀ st ∈ [RunState.awaitSetup, .ready, .barrier, .running], ∀ d ∈ [(0x55 : Byte), 0x54],
      let s := given 9 (.start 7 d) st
      s.hold = .free ∧ s.control.presenceDue = false ∧ s.link.fifo = [] ∧ s.control.state = st
      ∧ s.link.handOn = some (.record { header := head 9 23 1 1, body := .start 7 d })
      ∧ s.ownDigest = 0x55)
    ∧ Event.runMissed.isIn (given 9 .stop .ready).verdicts.events = false
    ∧ Event.runMissed.isIn 0x40 = true := by decide +kernel

theorem witness_ReleaseOfWaitArmsTheStation :
    (∀ looking claim, let s := (inState .barrier).withControl { (inState .barrier).control with
        barrier := { claim := claim, looking := looking, armed := false } }
      s.hold = .free ∧ s.control.presenceDue = false ∧ s.control.state = .barrier
      ∧ s.link.clearSeen = false ∧ s.control.barrier.looking = looking ∧ s.drivesWait = claim) := by
  decide +kernel

theorem witness_StopClosesTheRun :
    ∀ st ∈ [RunState.awaitSetup, .ready, .barrier, .running],
      let s := given 10 .stop st
      s.hold = .free ∧ s.control.presenceDue = false ∧ s.link.fifo = [] ∧ s.control.state = st
      ∧ s.link.handOn = some (.record { header := head 10 23 1 1, body := .stop })
      ∧ s.control.held = some { setup := plan, digest := 0x55 } ∧ s.link.opened = none
      ∧ s.link.mode ≠ .stopped := by decide +kernel
/-- A STOP at a station that holds no setup. -/
theorem witness_Stop_without_setup :
    let s := given 10 .stop .awaitSetup
    let s := s.withControl { s.control with held := none }
    s.hold = .free ∧ s.control.presenceDue = false ∧ s.link.fifo = [] ∧ s.control.state = .awaitSetup
    ∧ s.link.handOn = some (.record { header := head 10 23 1 1, body := .stop }) := by decide +kernel
/-- A current PHASE still open at the STOP, and slots with and without a successor. -/
theorem witness_Stop_open :
    (∀ taken ∈ [0, 1, 48],
      let o : OpenRecord := { phaseOf 9 1 49 with taken := taken, holding := .current }
      let s := (given 10 .stop .running).withLink { (given 10 .stop .running).link with opened := some o }
      s.hold = .free ∧ s.control.presenceDue = false ∧ s.link.fifo = [] ∧ s.control.state = .running
      ∧ s.link.handOn = some (.record { header := head 10 23 1 1, body := .stop })
      ∧ s.link.opened = some o)
    ∧ Slot.empty.state = .empty ∧ (unsent ownPhase).state = .unsent ownPhase
    ∧ ({ onLink ownPhase true false with successor := some ownPhase }).state = .onLink ownPhase true false := by
  decide +kernel

theorem witness_RecallIsAnsweredWithAHistory :
    let r : RxRecord := { header := { head 11 31 0 1 with target := 5 }, body := .recall }
    let s := handed (.record r) (inState .ready)
    s.hold = .free ∧ s.control.presenceDue = false ∧ s.link.fifo = [] ∧ s.link.handOn = some (.record r)
    ∧ r.header.target = s.control.number ∧ s.queue.history.state = .empty
    ∧ (head 11 31 0 1).target ≠ s.control.number
    ∧ (queued .history (unsent ownVerdict) s).queue.history.state ≠ .empty := by decide +kernel

/-- Bodies at the ends of their fields' ranges read back. -/
theorem witness_SentRecordsReadBack :
    (presence9.runState ≠ .strapFault ∧ presence9.runState ≠ .conflict ∧ presence9.slips < 65536)
    ∧ (verdict9.reasonBand < 256 ∧ verdict9.n < 256 ∧ verdict9.slips < 65536 ∧ -2 ^ 31 ≤ verdict9.y
      ∧ verdict9.y < 2 ^ 31 ∧ verdict9.bands.length = 8 ∧ (∀ x ∈ verdict9.bands, x < 2 ^ 32)
      ∧ verdict9.figure < 2 ^ 32 ∧ verdict9.separatedCount < 65536 ∧ verdict9.boundCount < 65536)
    ∧ (let es : List SummaryEntry := [{ peer := 0, values := two (2 ^ 52 - 1) 0 },
         { peer := 23, values := two 0 1 }]
       es.length ≤ 23 ∧ es.Pairwise (fun a b => a.peer < b.peer)
       ∧ ∀ e ∈ es, e.peer ≤ 23 ∧ e.peer ≠ 5 ∧ e.values.length = 8 ∧ ∀ x ∈ e.values, x < 2 ^ 52)
    ∧ ((head 4 5 (2 ^ 24 - 1) 255).source ≤ 23 ∧ (head 4 5 (2 ^ 24 - 1) 255).epoch < 2 ^ 24)
    ∧ (∀ r ∈ [(-8388607 : Int), 8388607], -8388607 ≤ r ∧ r ≤ 8388607)
    ∧ ∀ n ≤ 5458,
      ({ header := head 2 5 1 1, body := .phase (List.replicate n 0) } : Record).bytes.length ≤ 16384 := by
  simp only [← and_assoc]
  refine ⟨by decide +kernel, fun n hn => ?_⟩
  have bytes (r : Int) : (signedBytesOf 3 r).length = 3 := by simp [signedBytesOf, bytesOf]
  simp only [Record.bytes, Body.bytes, List.length_append, List.length_flatMap, bytes, List.map_const',
    List.length_replicate, List.sum_replicate, smul_eq_mul]
  have : (head 2 5 1 1).bytes.length = 9 := by decide +kernel
  omega

/-! ### Shared operations that the statements spell out -/

/-- Contexts of every void reason, with statistics and without; and a CAPTURE place empty and taken. -/
theorem witness_Close_period_values :
    (∀ st ∈ [none, some (EpochStats.start.add 5)],
      ((Context.fresh 0).finish plan [0, 0] st).void = none
      ∧ ∀ v ∈ [VoidReason.wander, .disturbed, .notMeasuring],
        ((voided (some v)).finish plan [0, 0] st).void ≠ none ∧ (voided (some v)).period = none)
    ∧ (EpochStats.start.add 5).min = some 5 ∧ (EpochStats.start.add 5).max = some 5
    ∧ (inState .ready).epochs.capture = none ∧ exchanging.epochs.capture = some (Context.fresh 2)
    ∧ openContext.pairs.Pairwise fun a b => a.peer < b.peer := by decide +kernel
/-- R162: the values are in the context that enters EXCHANGE, and a DISTURBED one has none. -/
theorem test_close_writes_period_values :
    [none, some VoidReason.disturbed].map (fun v =>
      let s := exchanging.withEngine
        { exchanging.engine with mode := some .period, stats := some ((EpochStats.start.add 5).add (-3)) }
      let s := s.withEpochs { s.epochs with capture := some { Context.fresh 2 with void := v } }
      (s.closeEpoch plan).epochs.exchange.bind (·.period))
      = [some { variance := 16, rms := 4, peak := 8 }, none] := by decide +kernel

/-- Three stations whose other two differ more than the station's row allows: its numerator is 250 − 251. -/
def belowFloor : Context :=
  { fourStations with
    pairs := [done 2 100 1, done 9 150 1]
    summaries := [row 2 [(5, 100, 1), (9, 251, 1)], row 9 [(2, 251, 1), (5, 150, 1)]] }
/-- R136, R138: band 0 alone is marked, and the figure sums the bands of its mask alone. -/
theorem test_belowFloor_and_figure :
    let r := measuredResult 5 2 belowFloor []
    r.n = 3 ∧ r.q.take 2 = [0, 1] ∧ r.belowFloor = 1 ∧ r.figure = 1
    ∧ (measuredResult 5 3 { fourStations with summaries := [] } []).n < 3 := by decide +kernel

/-- R147, R164: a count of 65,534 takes one more result, and 65,535 none. -/
theorem test_accumulators_stop :
    [65534, 65535].map (fun n =>
      let a := { AccSet.empty with count := n, smallestN := some 4 }.add (two 400 7) 3 true
      let p := { PeriodRun.empty with count := n, largestPeak := some 9 }.add
        { variance := 12, rms := 3, peak := 30 }
      ((a.count, a.sums.take 2, a.smallestN, a.referenceMark), p.count, p.varianceSum, p.largestPeak))
      = [((65535, [400, 7], some 3, true), 65535, 12, some 30),
         ((65535, AccSet.empty.sums.take 2, some 4, false), 65535, 0, some 9)] := by decide +kernel

/-- R143: at a tolerance of 1000 ppb, and at none. -/
theorem test_offFrequency_at_the_tolerance :
    [some 1000, some 1001, some (-1000), some (-1001), none].map (offFrequency { plan with tolerance := 1000 })
      = [false, true, false, true, false]
    ∧ offFrequency { plan with tolerance := 0 } (some 2000000) = false := by decide

/-- R155: the mark of a cause is set exactly while a snapshot is in flight. -/
theorem test_raise_marks_in_flight :
    [none, some 0x04].map (fun es =>
      let v := { VerdictUnit.reset with events := 0x04, snapshot := es }.raise .dutChanged
      (v.events, v.renewed)) = [(0x04, 0), (0x04, 0x04)] := by decide

/-- Every kind of record, for the snapshot, the verdict reported and the CLEAR count. -/
theorem witness_RecordsOfEveryKind :
    (∀ b ∈ [Body.presence presence9, .phase [], .summary [], .verdict verdict9],
      (b.kind ≠ .verdict ↔ ∀ v, b ≠ .verdict v) ∧ (b.kind ≠ .presence ↔ ∀ v, b ≠ .presence v))
    ∧ verdict9.runClose = false ∧ { verdict9 with runClose := true }.runClose = true := by
  simp [Body.kind, verdict9]
/-- R76, R79, R146 on a VERDICT of station 5. -/
theorem test_snapshot_report_and_clear_count :
    (ownVerdict.withEvents 0x41).bytes.getD 17 0 = 0x41 ∧ (ownVerdict.withEvents 0x41).bytes.getD 18 0 = 0xFF
    ∧ ownVerdict.reported = some .pass ∧ closeVerdict.reported = none
    ∧ (LinkCounts.zero.clear .phase).clearPhase = 1
    ∧ ({ LinkCounts.zero with clearVerdict := 65535 }.clear .verdict).clearVerdict = 65535 := by decide +kernel

/-- A roster that meets the premise, the numbers at both ends of those it may hold, and a SUMMARY of its run. -/
def rostered : State :=
  { inState .running with
    epochs := { Epochs.reset with runNumber := 7 }
    roster := [{ RosterEntry.fresh 9 with late := 65535 }, RosterEntry.fresh 23] }
theorem witness_RosterCounts :
    rostered.rosterSound ∧ rostered.control.state = .running
    ∧ (head 3 9 1 1).run = rostered.epochs.runNumber ∧ (head 3 9 1 1).digest = rostered.ownDigest
    ∧ 23 ≤ 23 ∧ 23 ≠ rostered.control.number ∧ 0 ≠ rostered.control.number ∧ 23 < 24
    ∧ 5 = rostered.control.number := by
  unfold State.rosterSound; decide +kernel
/-- R95, R100: a new entry is UNHEARD with one late record, a full count stays, and the own number changes nothing. -/
theorem test_counts_of_troubled_records :
    (rosterFind (rostered.countLate 0).roster 0).map (fun e => (e.state, e.late)) = some (.unheard, 1)
    ∧ (rosterFind (rostered.countLate 9).roster 9).map (·.late) = some 65535
    ∧ (rosterFind (rostered.countBroken 23).roster 23).map (·.broken) = some 1
    ∧ rostered.countDuplicate 5 = rostered ∧ rostered.countBroken 24 = rostered := by decide +kernel

/-- The bytes of a received record: its kind and source, and its length, all other bytes 0 but those given. -/
def received (kind source length : Nat) (at_ : List (Nat × Byte)) : List Byte :=
  at_.foldl (fun bs x => bs.set x.1 x.2)
    (BitVec.ofNat 8 kind :: BitVec.ofNat 8 source :: List.replicate (length - 2) 0)
/-- What the checks make of a record, by name alone. -/
def fate (bs : List Byte) : Option Bool :=
  match checkRecord bs with
  | .passed _ => some true
  | .malformed => some false
  | .discarded => none
/-- R83, checks 1 and 2: a kind that has no name, and sources that may not make theirs. -/
theorem test_unsuited_records_discarded :
    [(0, 5, 16), (6, 5, 16), (7, 31, 9), (12, 31, 9), (1, 24, 16), (4, 31, 64), (8, 5, 51), (11, 30, 9)].map
      (fun x => fate (received x.1 x.2.1 x.2.2 [])) = List.replicate 8 none := by decide +kernel
/-- R83, check 3, at one byte less and at the kind's own length; 2 is a PHASE in one frame. -/
theorem test_length_decides :
    [(1, 5, 16), (3, 5, 10), (4, 5, 64), (5, 5, 27), (8, 31, 51), (9, 31, 11), (10, 31, 9), (11, 31, 9)].map
      (fun x => (fate (received x.1 x.2.1 (x.2.2 - 1) []), fate (received x.1 x.2.1 x.2.2 [])))
      = List.replicate 8 (some false, some true)
    ∧ fate (received 2 5 128 []) = some false := by decide +kernel
/-- R84: each code at its last value and one above, and the entries of a SUMMARY: of the source itself, out of order,
and with a value of 2^52. -/
theorem test_content_decides :
    [(9, 3), (10, 4), (11, 1), (12, 1)].map (fun x => (fate (received 1 5 16 [(x.1, BitVec.ofNat 8 x.2)]),
      fate (received 1 5 16 [(x.1, BitVec.ofNat 8 (x.2 + 1))]))) = List.replicate 4 (some true, some false)
    ∧ [(9, 4), (10, 7), (12, 3)].map (fun x => (fate (received 4 5 64 [(x.1, BitVec.ofNat 8 x.2)]),
      fate (received 4 5 64 [(x.1, BitVec.ofNat 8 (x.2 + 1))]))) = List.replicate 3 (some true, some false)
    ∧ [[(67, 1)], [(67, 0)], [(10, 5), (67, 6)], [(11, 16), (67, 1)], [(11, 15), (67, 1)]].map
        (fun x => fate (received 3 5 124 ((9, 2) :: x))) = [some true, some false, some false, some false, some true]
    ∧ [(9, 477), (8, 427)].map (fun x => fate (received 5 5 x.2 [(25, x.1)])) = [some false, some true] := by
  decide +kernel
/-- R91, R92: fields of a SETUP and a START at their bytes. -/
theorem test_tap_fields :
    checkRecord (received 9 31 11 [(9, 7), (10, 0x55)]) = .passed
      ⟨{ kind := 9, source := 31, target := 0, run := 0, epoch := 0, digest := 0, frames := 0 }, .start 7 0x55⟩
    ∧ (readSetup (received 8 31 51 [(9, 10), (14, 9), (17, 3), (19, 4), (20, 1), (42, 6), (45, 7), (48, 5), (49, 2),
        (50, 0x81)])) =
      { exponent := 10, tNom := 9, tolerance := 3, settleEpochs := 4, modeByte := 1
        limits := [0, 0, 0, 0, 0, 0, 0, 6 * 65536], figureMask := 7, figureLimit := 5, minEpochs := 2
        maskByte := 0x81 } := by decide +kernel

/-- A HISTORY with an entry and a peer. -/
def historyBody : HistoryBody :=
  { counts := { LinkCounts.zero with clearSummary := 258, verdictSuperseded := 3 }
    entries := [entryOf 7 65537 verdict9]
    roster := [{ peer := 9, state := .quiet, missed := 1, mismatch := 2, broken := 3, late := 4, duplicate := 258 }] }
theorem witness_HistoryLayout :
    historyBody.entries.length ≤ 8 ∧ historyBody.roster.length ≤ 23
    ∧ (∀ e ∈ historyBody.entries, e.bands.length = 8) ∧ (head 5 5 1 1).kind = 5 ∧ (head 5 5 1 1).source ≤ 23
    ∧ plan.limits.length = 8 := by decide +kernel
/-- R90: bytes of the counts, of the entry and of the roster entry where section 5.6 puts them. -/
theorem test_history_bytes :
    let bs := Record.bytes ⟨head 5 5 1 1, .history historyBody⟩
    bs.length = 87 ∧ [11, 12, 24, 25, 26, 29, 36, 76, 77, 78, 85, 86].map (fun n => bs.getD n 0)
      = [1, 2, 3, 1, 7, 1, 0x80, 1, 9, 3, 1, 2] := by decide +kernel

end Sys2Proof.Tests
end

section
/-! SUPPORT. What hearing a record does, whichever kind it is: an event's end at rest, the roster's entries, RUN_MISSED,
and the conditions of R36. -/

namespace Sys2Proof.Machine.Intake

/-! ### The end of an event at rest -/

theorem event_of_atRest {s t : State} {act : State → State} (h : s.atRest) (ht : act s = t) :
    s.event act = .next t.settlePresence := by
  rw [State.event_of_free h.1, ht]

/-- An event whose changes raise no occasion of R175 ends with them. -/
theorem event_of_settled {s t : State} {act : State → State} (h : s.atRest) (ht : act s = t)
    (hd : t.control.presenceDue = false) : s.event act = .next t := by
  rw [event_of_atRest h ht, State.settlePresence_of_settled hd]

/-- An occasion that arises at rest ends in one PRESENCE of the state as it stands (R175). -/
theorem settlePresence_presenceDue {s : State} (hd : s.control.presenceDue = false)
    (hs : s.control.state ≠ .strapFault) (hc : s.control.state ≠ .conflict) :
    s.presenceDue.settlePresence = s.presenceMade := by
  have back : s.presenceDue.withControl { s.presenceDue.control with presenceDue := false } = s := by
    simp only [State.presenceDue, State.withControl, ← hd]
  have due : s.presenceDue.control.presenceDue = true := rfl
  rw [State.settlePresence, if_pos due, back]
  exact if_neg (not_or.2 ⟨hs, hc⟩)

/-! ### Roster entries -/

theorem rosterFind_cons (e : RosterEntry) (es : List RosterEntry) (i : Nat) :
    rosterFind (e :: es) i = if e.peer = i then some e else rosterFind es i := by
  by_cases h : e.peer = i <;> simp [rosterFind, h]

theorem rosterFind_eq_none {es : List RosterEntry} {i : Nat} (h : ∀ e ∈ es, e.peer ≠ i) :
    rosterFind es i = none := by
  simpa [rosterFind] using h

theorem rosterFind_rosterEnsure_other {es : List RosterEntry} {i j : Nat} (h : i ≠ j) :
    rosterFind (rosterEnsure j es) i = rosterFind es i := by
  have hf : (RosterEntry.fresh j).peer ≠ i := fun hj => h hj.symm
  induction es with
  | nil => simp [rosterEnsure, rosterFind_cons, hf]
  | cons e es ih =>
    unfold rosterEnsure
    split
    · rw [rosterFind_cons, if_neg hf]
    · split
      · rfl
      · rw [rosterFind_cons, rosterFind_cons, ih]

/-- An entry made sure of is there, in any roster. -/
theorem rosterFind_rosterEnsure_isSome (j : Nat) (es : List RosterEntry) :
    ∃ e, rosterFind (rosterEnsure j es) j = some e := by
  induction es with
  | nil => exact ⟨_, by simp [rosterEnsure, rosterFind_cons, RosterEntry.fresh]; rfl⟩
  | cons a es ih =>
    unfold rosterEnsure
    split
    · exact ⟨RosterEntry.fresh j, by simp [rosterFind_cons, RosterEntry.fresh]⟩
    · split
      · next h => exact ⟨a, by simp [rosterFind_cons, h]⟩
      · next h => simpa [rosterFind_cons, h] using ih

/-- In a roster in ascending number it is the entry held, or a new one (R95). -/
theorem rosterFind_rosterEnsure_same {j : Nat} {es : List RosterEntry}
    (h : es.Pairwise fun a b => a.peer < b.peer) :
    rosterFind (rosterEnsure j es) j = some ((rosterFind es j).getD (RosterEntry.fresh j)) := by
  have hf : (RosterEntry.fresh j).peer = j := rfl
  induction es with
  | nil => simp [rosterEnsure, hf, rosterFind]
  | cons a es ih =>
    obtain ⟨ha, hes⟩ := List.pairwise_cons.1 h
    unfold rosterEnsure
    split
    · next hj =>
      have hnone : rosterFind (a :: es) j = none := rosterFind_eq_none fun e he => by
        rcases List.mem_cons.1 he with rfl | he
        · omega
        · have := ha e he; omega
      rw [rosterFind_cons, if_pos hf, hnone]; rfl
    · split
      · next hj => simp [rosterFind_cons, hj]
      · next hj => rw [rosterFind_cons, rosterFind_cons, if_neg hj, if_neg hj, ih hes]

theorem rosterFind_rosterChange {f : RosterEntry → RosterEntry} (hf : ∀ e, (f e).peer = e.peer) (i j : Nat)
    (es : List RosterEntry) :
    rosterFind (rosterChange j f es) i = if i = j then (rosterFind es i).map f else rosterFind es i := by
  induction es with
  | nil => simp [rosterChange, rosterFind]
  | cons a es ih =>
    have hp : (if a.peer = j then f a else a).peer = a.peer := by split <;> simp [hf]
    rw [rosterChange, List.map_cons, rosterFind_cons, hp, rosterFind_cons]
    by_cases hi : a.peer = i
    · rw [if_pos hi, if_pos hi, hi]
      split <;> rfl
    · rw [if_neg hi, if_neg hi]
      exact ih

@[simp] theorem rosterChange_id (j : Nat) (es : List RosterEntry) : rosterChange j id es = es := by
  simp [rosterChange]

/-- The roster with an entry for each of these numbers (R95, R99). -/
def rosterEnsureAll (js : List Nat) (es : List RosterEntry) : List RosterEntry :=
  js.foldl (fun es j => rosterEnsure j es) es

theorem rosterFind_rosterEnsureAll {js : List Nat} : ∀ {es : List RosterEntry},
    (es.Pairwise fun a b => a.peer < b.peer) → ∀ i, rosterFind (rosterEnsureAll js es) i =
      if i ∈ js then some ((rosterFind es i).getD (RosterEntry.fresh i)) else rosterFind es i := by
  induction js with
  | nil => intro es _ i; simp [rosterEnsureAll]
  | cons j js ih =>
    intro es h i
    have step := ih (rosterEnsure_ascending (j := j) h) i
    by_cases hij : i = j
    · subst hij
      rw [rosterFind_rosterEnsure_same h] at step
      simpa [rosterEnsureAll] using step
    · rw [rosterFind_rosterEnsure_other hij] at step
      simpa [rosterEnsureAll, hij] using step

/-- Each of the numbers has an entry then, and no entry is lost, in any roster. -/
theorem rosterFind_rosterEnsureAll_isSome {js : List Nat} {i : Nat} : ∀ {es : List RosterEntry},
    (i ∈ js ∨ ∃ e, rosterFind es i = some e) → ∃ e, rosterFind (rosterEnsureAll js es) i = some e := by
  induction js with
  | nil => intro es h; simpa [rosterEnsureAll] using h
  | cons j js ih =>
    intro es h
    refine ih (es := rosterEnsure j es) ?_
    by_cases hij : i = j
    · subst hij
      exact .inr (rosterFind_rosterEnsure_isSome i es)
    · rw [rosterFind_rosterEnsure_other hij]
      exact h.imp_left fun hm => (List.mem_cons.1 hm).resolve_left hij

/-! ### Acting on a peer's entry -/

theorem mayHold_iff {s : State} {j : Nat} : s.mayHold j = true ↔ j ≤ 23 ∧ j ≠ s.control.number := by
  simp only [State.mayHold, Bool.and_eq_true, decide_eq_true_eq]
  exact Iff.rfl

/-- An event at a peer's entry changes the roster alone. -/
theorem onPeer_eq (s : State) (j : Nat) (f : RosterEntry → RosterEntry) :
    s.onPeer j f = { s with roster := (s.onPeer j f).roster } := by
  unfold State.onPeer; split <;> rfl

theorem onPeer_of_not_mayHold {s : State} {j : Nat} (h : 23 < j ∨ j = s.control.number)
    (f : RosterEntry → RosterEntry) : s.onPeer j f = s := by
  refine if_neg fun hm => ?_
  obtain ⟨hle, hne⟩ := mayHold_iff.1 hm
  exact h.elim (fun hlt => absurd hle (Nat.not_le.2 hlt)) hne

theorem onPeer_id {s : State} (j : Nat) :
    s.onPeer j id = if s.mayHold j then s.withRoster (rosterEnsure j s.roster) else s := by
  simp [State.onPeer]

/-- The entry of the peer is changed, new when it was missing, and the other entries stay (R95). -/
theorem rosterFind_onPeer {s : State} {j : Nat} {f : RosterEntry → RosterEntry} (hs : s.rosterSound)
    (hf : ∀ e, (f e).peer = e.peer) (hj : j ≤ 23) (hn : j ≠ s.control.number) (i : Nat) :
    rosterFind (s.onPeer j f).roster i =
      if i = j then some (f ((rosterFind s.roster j).getD (RosterEntry.fresh j))) else rosterFind s.roster i := by
  have hr : (s.onPeer j f).roster = rosterChange j f (rosterEnsure j s.roster) :=
    congrArg State.roster (if_pos (mayHold_iff.2 ⟨hj, hn⟩))
  rw [hr, rosterFind_rosterChange hf]
  split
  · next h => subst h; rw [rosterFind_rosterEnsure_same hs.1]; rfl
  · next h => exact rosterFind_rosterEnsure_other h

@[simp] theorem onPeer_withLink (s : State) (l : Link) (j : Nat) (f : RosterEntry → RosterEntry) :
    (s.withLink l).onPeer j f = (s.onPeer j f).withLink l := by
  have hm : (s.withLink l).mayHold j = s.mayHold j := rfl
  rw [State.onPeer, State.onPeer, hm]
  split <;> rfl

@[simp] theorem hear_withLink (s : State) (l : Link) (h : Header) :
    (s.withLink l).hear h = (s.hear h).withLink l := onPeer_withLink _ _ _ _

theorem hear_eq (s : State) (h : Header) : s.hear h = { s with roster := (s.hear h).roster } := onPeer_eq _ _ _

/-! ### A record of another run (R173) -/

theorem noteOtherRun_of_sameRun {s : State} {h : Header} (hr : h.run = s.epochs.runNumber) :
    s.noteOtherRun h = s := if_neg fun c => c.1 hr

theorem noteOtherRun_of_barrier {s : State} {h : Header} (hb : s.control.state = .barrier) :
    s.noteOtherRun h = s := by
  simp [State.noteOtherRun, hb]

theorem noteOtherRun_of_otherRun {s : State} {h : Header} (hr : h.run ≠ s.epochs.runNumber)
    (hs : s.control.state = .awaitSetup ∨ s.control.state = .ready ∨ s.control.state = .running) :
    s.noteOtherRun h = s.runMissed := if_pos ⟨hr, hs⟩

theorem runMissed_withLink (s : State) (l : Link) : (s.withLink l).runMissed = s.runMissed.withLink l := by
  by_cases h : Event.runMissed.isIn s.verdicts.events = true <;>
    simp only [State.runMissed, State.withLink_verdicts, h, if_true] <;> rfl

@[simp] theorem noteOtherRun_withLink (s : State) (l : Link) (h : Header) :
    (s.withLink l).noteOtherRun h = (s.noteOtherRun h).withLink l := by
  simp only [State.noteOtherRun, State.withLink_epochs, State.withLink_control, runMissed_withLink]
  split <;> rfl

/-- A record of another run may leave an occasion for a PRESENCE; the rest of run control stays. -/
@[simp] theorem noteOtherRun_control (s : State) (h : Header) : (s.noteOtherRun h).control.state = s.control.state
    ∧ (s.noteOtherRun h).control.held = s.control.held ∧ (s.noteOtherRun h).control.number = s.control.number := by
  unfold State.noteOtherRun State.runMissed
  repeat' split
  all_goals simp [State.presenceDue]

/-- What the end of the event makes of a record of another run: nothing in BARRIER; elsewhere RUN_MISSED, and a
PRESENCE when that was clear (R173, R175). -/
theorem outcome_of_otherRun {s : State} {h : Header} {out : Host.Outcome State Fault Refusal}
    (hout : out = .next (s.noteOtherRun h).settlePresence) (hd : s.control.presenceDue = false)
    (hr : h.run ≠ s.epochs.runNumber) :
    (s.control.state = .barrier → out = .next s)
    ∧ ((s.control.state = .awaitSetup ∨ s.control.state = .ready ∨ s.control.state = .running) →
      (Event.runMissed.isIn s.verdicts.events = true → out = .next (s.raise .runMissed))
      ∧ (Event.runMissed.isIn s.verdicts.events = false → out = .next (s.raise .runMissed).presenceMade)) := by
  refine ⟨fun hb => ?_, fun hs => ⟨fun hset => ?_, fun hclear => ?_⟩⟩
  · rw [hout, noteOtherRun_of_barrier hb, State.settlePresence_of_settled hd]
  · rw [hout, noteOtherRun_of_otherRun hr hs, State.runMissed, if_pos hset,
      State.settlePresence_of_settled (by simpa using hd)]
  · have here : s.control.state ≠ .strapFault ∧ s.control.state ≠ .conflict := by
      rcases hs with hs | hs | hs <;> simp [hs]
    rw [hout, noteOtherRun_of_otherRun hr hs, State.runMissed, hclear, if_neg Bool.false_ne_true,
      settlePresence_presenceDue (by simpa using hd) (by simpa using here.1) (by simpa using here.2)]

/-! ### The conditions of R36 -/

theorem judges_iff {s : State} {h : Header} : s.judges h = true ↔
    s.control.state = .running ∧ h.run = s.epochs.runNumber ∧ h.digest = s.ownDigest := by
  simp [State.judges, State.inRun, and_assoc]

theorem not_judges_of_otherRun {s : State} {h : Header} (hr : h.run ≠ s.epochs.runNumber) : s.judges h = false :=
  Bool.eq_false_iff.2 fun hj => hr (judges_iff.1 hj).2.1

theorem not_judges_of_refused {s : State} {h : Header}
    (hr : s.control.state ≠ .running ∨ h.digest ≠ s.ownDigest) : s.judges h = false := by
  refine Bool.eq_false_iff.2 fun hj => ?_
  obtain ⟨hrun, -, hdig⟩ := judges_iff.1 hj
  exact hr.elim (· hrun) (· hdig)

/-- The conditions depend on run state, setup and run number alone. -/
theorem judges_congr {s t : State} (hs : t.control.state = s.control.state) (hh : t.control.held = s.control.held)
    (he : t.epochs = s.epochs) (h : Header) : t.judges h = s.judges h := by
  have hd : t.ownDigest = s.ownDigest := by unfold State.ownDigest; rw [hh]
  rw [Bool.eq_iff_iff, judges_iff, judges_iff, hs, he, hd]

end Sys2Proof.Machine.Intake
end

section
/-! SUPPORT. PHASE_FIRST_FRAME: the class of a PHASE (R37), and what the FIRST frame's command leaves. -/

namespace Sys2Proof.Machine.Intake

/-! ### The class of a PHASE (R37) -/

theorem classifyPhase_congr {s t : State} {h : Header} (hj : t.judges h = s.judges h) (he : t.epochs = s.epochs)
    (hg : t.engine = s.engine) : t.classifyPhase h = s.classifyPhase h := by
  unfold State.classifyPhase State.inPeriod
  rw [hj, he, hg]

theorem classifyPhase_refused {s : State} {h : Header} (hj : s.judges h = false) :
    s.classifyPhase h = .refused := by
  simp [State.classifyPhase, hj]

theorem classifyPhase_inPeriod {s : State} {h : Header} (hj : s.judges h = true)
    (hm : s.engine.mode = some .period) : s.classifyPhase h = .unpaired := by
  simp [State.classifyPhase, State.inPeriod, hj, hm]

/-- A PHASE of another epoch than the open one is early or late. -/
theorem classifyPhase_otherEpoch {s : State} {h : Header} (hj : s.judges h = true) (hm : s.engine.mode = some .hat)
    (ho : ∀ c, s.epochs.exchange = some c → c.epoch ≠ h.epoch) :
    s.classifyPhase h = .early ∨ s.classifyPhase h = .late := by
  have hp : s.inPeriod = false := by simp [State.inPeriod, hm]
  simp only [State.classifyPhase, hj, hp, Bool.not_true, Bool.false_eq_true, if_false]
  split
  · exact .inl rfl
  · split
    · exact .inr rfl
    · split
      · exact .inr rfl
      · next c hc => exact .inr (if_pos (ho c hc))

/-- A PHASE of the open epoch is classified by the context's void reason and its peer's pair entry. -/
theorem classifyPhase_openEpoch {s : State} {h : Header} {c : Context} (hj : s.judges h = true)
    (hm : s.engine.mode = some .hat) (hx : s.epochs.exchange = some c) (hc : c.epoch + 1 = s.epochs.counter)
    (he : h.epoch = c.epoch) :
    (c.void ≠ none → s.classifyPhase h = .unpaired)
    ∧ (c.void = none → (∀ vs, pairOf c.pairs h.source = some (.done vs) → s.classifyPhase h = .duplicate)
      ∧ (pairOf c.pairs h.source = some .none ∨ pairOf c.pairs h.source = some .broken →
        s.classifyPhase h = .current)) := by
  have hp : s.inPeriod = false := by simp [State.inPeriod, hm]
  have early : ¬ s.epochs.counter ≤ c.epoch := by omega
  have late : ¬ c.epoch + 1 < s.epochs.counter := by omega
  refine ⟨fun hv => ?_, fun hv => ⟨fun vs hd => ?_, fun hd => ?_⟩⟩
  · simp [State.classifyPhase, hj, hp, early, late, hx, he, Option.isSome_iff_ne_none.2 hv]
  · simp [State.classifyPhase, hj, hp, early, late, hx, he, hv, hd]
  · rcases hd with hd | hd <;> simp [State.classifyPhase, hj, hp, early, late, hx, he, hv, hd]

/-- What the station hears of the PHASE itself does not touch its class. -/
theorem classifyPhase_heard (s : State) (h : Header) :
    ((s.hear h).noteOtherRun h).classifyPhase h = s.classifyPhase h := by
  refine classifyPhase_congr (judges_congr ?_ ?_ ?_ h) ?_ ?_ <;> simp

/-! ### Discarding and holding -/

/-- The link controller once the PHASE `o` is discarded, whose FIRST frame was alone in the FIFO. -/
def discarding (l : Link) (o : OpenRecord) : Link :=
  { l with fifo := [], opened := some { o with taken := 1, holding := .discarded } }

theorem discardFirst_drain {s : State} {o : OpenRecord} {e : FifoEntry} (hf : s.link.fifo = [e])
    (he : e.lost = false) : (s.discardFirst o o.counted).drain = s.withLink (discarding s.link o) := by
  have left : s.discardFirst o o.counted = s.withLink (discarding s.link o) := by
    simp [State.discardFirst, State.afterEntry, State.popFifo, hf, he, discarding, State.withLink]
  rw [left]
  exact State.drain_of_empty rfl

theorem applyClassOf_withLink (s : State) (l : Link) (j : Nat) (c : PhaseClass) :
    (s.withLink l).applyClassOf j c = (s.applyClassOf j c).withLink l := by
  cases c with
  | duplicate | early | late => exact onPeer_withLink _ _ _ _
  | current | unpaired | refused => rfl

theorem applyClassOf_frame (s : State) (j : Nat) (c : PhaseClass) :
    (s.applyClassOf j c).control = s.control ∧ (s.applyClassOf j c).link = s.link := by
  cases c <;> simp [State.applyClassOf]

theorem finishFrame_of_free {s : State} (h : s.engine.inHand = none) : s.finishFrame = s := by
  simp [State.finishFrame, h]

theorem phaseHeaderOk_iff {s : State} {h : Header} :
    s.phaseHeaderOk h = true ↔ h.source ≤ 23 ∧ h.source ≠ s.control.number ∧ h.frames = 49 := by
  simp [State.phaseHeaderOk, and_assoc]

/-! ### The FIRST frame of a PHASE -/

/-- At a station at rest a PHASE waits in assembly for its classification, its FIRST frame at the oldest end of the
FIFO, and the engine has no frame in hand. -/
structure PhaseWaits (s : State) (o : OpenRecord) (e : FifoEntry) (rest : List FifoEntry) : Prop where
  atRest : s.atRest
  opened : s.link.opened = some o
  fifo : s.link.fifo = e :: rest
  unclassified : o.holding = .unclassified
  engineFree : s.engine.inHand = none

/-- The station has heard the PHASE `o` and discards it. -/
def heardAndDiscarded (s : State) (o : OpenRecord) : State := (s.hear o.header).withLink (discarding s.link o)

@[simp] theorem heardAndDiscarded_frame (s : State) (o : OpenRecord) :
    (heardAndDiscarded s o).control = s.control ∧ (heardAndDiscarded s o).epochs = s.epochs
    ∧ (heardAndDiscarded s o).verdicts = s.verdicts := by
  simp [heardAndDiscarded]

section
variable {s : State} {o : OpenRecord} {e : FifoEntry} {rest : List FifoEntry}

theorem PhaseWaits.onFirst (w : PhaseWaits s o e rest) : s.onPhaseFirstFrame = s.classifyFirst o := by
  simp [State.onPhaseFirstFrame, w.opened, w.fifo, w.unclassified, finishFrame_of_free w.engineFree]

/-- A PHASE that fails the header check is discarded unheard (R85). -/
theorem PhaseWaits.exec_badHeader (w : PhaseWaits s o e []) (he : e.lost = false)
    (hh : s.phaseHeaderOk o.header = false) :
    exec .phaseFirstFrame s = .next (s.withLink (discarding s.link o)) := by
  refine event_of_settled w.atRest ?_ w.atRest.2
  rw [w.onFirst, State.classifyFirst, hh]
  exact discardFirst_drain w.fifo he

/-- A current PHASE of the station's own run is heard, opens its pair entry and is held for the pair engine (R114). -/
theorem PhaseWaits.exec_current (w : PhaseWaits s o e rest) (hh : s.phaseHeaderOk o.header = true)
    (hr : o.header.run = s.epochs.runNumber) (hc : s.classifyPhase o.header = .current) :
    exec .phaseFirstFrame s = .next (((s.hear o.header).openPair o.header.source).withLink
      { s.link with opened := some { o with holding := .current } }) := by
  have same : (s.hear o.header).noteOtherRun o.header = s.hear o.header :=
    noteOtherRun_of_sameRun (by simpa using hr)
  have hc' : (s.hear o.header).classifyPhase o.header = .current := by
    rw [← same, classifyPhase_heard, hc]
  refine event_of_settled w.atRest ?_ (by simpa using w.atRest.2)
  simp [w.onFirst, State.classifyFirst, hh, same, hc', State.applyClassOf, State.holdOpen, w.opened]

/-- A PHASE that is not current is heard and discarded, a missed run is noted, and its class acts; then a PRESENCE is
made if one is due. -/
theorem PhaseWaits.exec_notCurrent (w : PhaseWaits s o e []) (he : e.lost = false)
    (hh : s.phaseHeaderOk o.header = true) {k : PhaseClass} (hk : s.classifyPhase o.header = k)
    (hc : k ≠ .current) :
    exec .phaseFirstFrame s = .next (((heardAndDiscarded s o).noteOtherRun o.header).applyClassOf
      o.header.source k).settlePresence := by
  have link : (((s.hear o.header).noteOtherRun o.header).applyClassOf o.header.source k).link = s.link := by
    simp [applyClassOf_frame]
  refine event_of_atRest w.atRest ?_
  simp only [w.onFirst, State.classifyFirst, hh, if_true, classifyPhase_heard, hk, if_neg hc]
  rw [discardFirst_drain (link.symm ▸ w.fifo) he, link, heardAndDiscarded, noteOtherRun_withLink,
    applyClassOf_withLink]

/-- Of the station's own run, it raises its class's count alone. -/
theorem PhaseWaits.exec_ownRun (w : PhaseWaits s o e []) (he : e.lost = false)
    (hh : s.phaseHeaderOk o.header = true) (hr : o.header.run = s.epochs.runNumber) {k : PhaseClass}
    (hk : s.classifyPhase o.header = k) (hc : k ≠ .current) :
    exec .phaseFirstFrame s = .next ((heardAndDiscarded s o).applyClassOf o.header.source k) := by
  rw [w.exec_notCurrent he hh hk hc, noteOtherRun_of_sameRun (by simpa using hr), State.settlePresence_of_settled]
  simpa [applyClassOf_frame] using w.atRest.2

/-- Of another epoch than the open one, it is counted late (R100). -/
theorem PhaseWaits.exec_otherEpoch (w : PhaseWaits s o e []) (he : e.lost = false)
    (hh : s.phaseHeaderOk o.header = true) (hj : s.judges o.header = true) (hm : s.engine.mode = some .hat)
    (ho : ∀ c, s.epochs.exchange = some c → c.epoch ≠ o.header.epoch) :
    exec .phaseFirstFrame s = .next ((heardAndDiscarded s o).countLate o.header.source) := by
  obtain ⟨-, hr, -⟩ := judges_iff.1 hj
  rcases classifyPhase_otherEpoch hj hm ho with hk | hk
  · exact w.exec_ownRun he hh hr hk nofun
  · exact w.exec_ownRun he hh hr hk nofun

end

/-! ### The statements -/

/-- Settles O25: the class is read off the open context, and a change of one entry is the law of the pair table. -/
theorem currentPhaseOpensItsPairEntry : Obligations.CurrentPhaseOpensItsPairEntry := by
  refine ⟨?_, fun ps i j st => ?_⟩
  · intro s o e rest c hrest hopen hfifo hun hhand hrun hmode hsrc hown hframes hrn hdig hx hce hcnt hvoid hpair
    have w : PhaseWaits s o e rest := ⟨hrest, hopen, hfifo, hun, hhand⟩
    have hcur : s.classifyPhase o.header = .current :=
      ((classifyPhase_openEpoch (judges_iff.2 ⟨hrun, hrn, hdig⟩) hmode hx (hce ▸ hcnt.symm) hce.symm).2
        hvoid).2 hpair
    rw [w.exec_current (phaseHeaderOk_iff.2 ⟨hsrc, hown, hframes⟩) hrn hcur, hear_eq]
    simp only [State.openPair, State.setExchangePair, hx, Option.map_some]
    rfl
  · split
    · next h => subst h; exact pairOf_setPair_same
    · next h => exact pairOf_setPair_other h

/-- Settles O26: each clause names the class of the PHASE and the trace that class leaves. -/
theorem otherPhasesAreDiscarded : Obligations.OtherPhasesAreDiscarded := by
  intro s o e c hrest hopen hfifo hlost hun hhand
  have w : PhaseWaits s o e [] := ⟨hrest, hopen, hfifo, hun, hhand⟩
  refine ⟨fun hbad => w.exec_badHeader hlost (Bool.eq_false_iff.2 fun hok => ?_), fun hsrc hown hframes => ?_⟩
  · obtain ⟨hle, hne, h49⟩ := phaseHeaderOk_iff.1 hok
    rcases hbad with hb | hb | hb
    · exact absurd hle (Nat.not_le.2 hb)
    · exact hne hb
    · exact hb h49
  have hok := phaseHeaderOk_iff.2 ⟨hsrc, hown, hframes⟩
  refine ⟨fun href hr => ?_, fun hr => ?_, fun hrun hr hdig => ?_⟩
  · exact w.exec_ownRun hlost hok hr (classifyPhase_refused (not_judges_of_refused href)) nofun
  · have missed := outcome_of_otherRun
      (w.exec_notCurrent hlost hok (classifyPhase_refused (not_judges_of_otherRun hr)) nofun)
      (by simpa using hrest.2) (by simpa using hr)
    simp only [heardAndDiscarded_frame] at missed
    exact missed
  · have hj : s.judges o.header = true := judges_iff.2 ⟨hrun, hr, hdig⟩
    refine ⟨fun hm => w.exec_ownRun hlost hok hr (classifyPhase_inPeriod hj hm) nofun,
      fun hm => ⟨fun hx => w.exec_otherEpoch hlost hok hj hm (by simp [hx]), fun hx hcnt => ?_⟩⟩
    refine ⟨fun hne => w.exec_otherEpoch hlost hok hj hm fun x hx' => ?_, fun he hv => ?_, fun vs he hv hp => ?_⟩
    · obtain rfl := Option.some.inj (hx ▸ hx')
      exact hne.symm
    · exact w.exec_ownRun hlost hok hr ((classifyPhase_openEpoch hj hm hx hcnt he).1 hv) nofun
    · exact w.exec_ownRun hlost hok hr (((classifyPhase_openEpoch hj hm hx hcnt he).2 hv).1 vs hp) nofun

end Sys2Proof.Machine.Intake
end

section
/-! SUPPORT. SUMMARY_RECORD: the peers a SUMMARY names (R99), its class (R38), the summary stores (R34), and the counts
of troubled records (R100). -/

namespace Sys2Proof.Machine.Intake

/-! ### The peers named (R99) -/

/-- Making peers known acts on the roster alone, an entry at a time. -/
theorem foldl_onPeer_id (es : List SummaryEntry) : ∀ s : State,
    es.foldl (fun s e => s.onPeer e.peer id) s
      = s.withRoster (rosterEnsureAll ((es.map (·.peer)).filter s.mayHold) s.roster) := by
  induction es with
  | nil => intro s; rfl
  | cons e es ih =>
    intro s
    rw [List.foldl_cons, ih, onPeer_id, List.map_cons, List.filter_cons]
    split <;> rfl

theorem noteNamed_of_judges {s : State} {h : Header} (hj : s.judges h = true) (es : List SummaryEntry) :
    s.noteNamed h es = s.withRoster (rosterEnsureAll ((es.map (·.peer)).filter s.mayHold) s.roster) := by
  obtain ⟨hrun, hr, hd⟩ := judges_iff.1 hj
  rw [State.noteNamed, if_pos ⟨by simpa [State.inRun] using hrun, hr, hd⟩, foldl_onPeer_id]

theorem noteNamed_of_not_judges {s : State} {h : Header} (hj : s.judges h = false) (es : List SummaryEntry) :
    s.noteNamed h es = s := by
  refine if_neg fun c => ?_
  obtain ⟨hrun, hr, hd⟩ := c
  exact Bool.eq_false_iff.1 hj (judges_iff.2 ⟨by simpa [State.inRun] using hrun, hr, hd⟩)

theorem mem_named_iff {s : State} {es : List SummaryEntry} {i : Nat} :
    i ∈ (es.map (·.peer)).filter s.mayHold ↔ i ≤ 23 ∧ i ≠ s.control.number ∧ ∃ e ∈ es, e.peer = i := by
  rw [List.mem_filter, List.mem_map, mayHold_iff]
  tauto

/-- Each peer named that the roster may hold is known then, in any roster. -/
theorem noteNamed_knows {s : State} {h : Header} {es : List SummaryEntry} (hj : s.judges h = true) {e : SummaryEntry}
    (he : e ∈ es) (hle : e.peer ≤ 23) (hne : e.peer ≠ s.control.number) :
    ∃ x, rosterFind (s.noteNamed h es).roster e.peer = some x := by
  rw [noteNamed_of_judges hj]
  exact rosterFind_rosterEnsureAll_isSome (.inl (mem_named_iff.2 ⟨hle, hne, e, he, rfl⟩))

/-- A SUMMARY that R36 takes changes the roster by the peers it names: who has an entry keeps it, who is named and
may be held gets a new one. -/
theorem noteNamed_spec (s : State) (h : Header) (es : List SummaryEntry) (hs : s.rosterSound)
    (hj : s.judges h = true) :
    s.noteNamed h es = { s with roster := (s.noteNamed h es).roster }
    ∧ (∀ i e, rosterFind s.roster i = some e → rosterFind (s.noteNamed h es).roster i = some e)
    ∧ ∀ i, rosterFind s.roster i = none → rosterFind (s.noteNamed h es).roster i =
        if i ≤ 23 ∧ i ≠ s.control.number ∧ ∃ e ∈ es, e.peer = i then some (RosterEntry.fresh i) else none := by
  rw [noteNamed_of_judges hj]
  have find := rosterFind_rosterEnsureAll (js := (es.map (·.peer)).filter s.mayHold) hs.1
  refine ⟨rfl, fun i e he => ?_, fun i hi => ?_⟩
  · simp [find, he]
  · simp only [State.withRoster_roster, find, hi, mem_named_iff, Option.getD_none]

/-! ### The class of a SUMMARY (R38) -/

theorem takingSummary_exchange {e : Epochs} {c : Context} (hx : e.exchange = some c) :
    e.takingSummary c.epoch = some c := by
  simp [Epochs.takingSummary, hx, Option.filter]

theorem exchange_filter_other {e : Epochs} {n : Nat} (ho : ∀ x, e.exchange = some x → x.epoch ≠ n) :
    e.exchange.filter (·.epoch = n) = none := by
  simpa [Option.filter_eq_none_iff] using ho

theorem takingSummary_summaryWait {e : Epochs} {c : Context} (ho : ∀ x, e.exchange = some x → x.epoch ≠ c.epoch)
    (hw : e.summaryWait = some c) : e.takingSummary c.epoch = some c := by
  rw [Epochs.takingSummary, exchange_filter_other ho, hw]
  simp [Option.filter]

theorem takingSummary_none {e : Epochs} {n : Nat} (ho : ∀ x, e.exchange = some x → x.epoch ≠ n)
    (hw : ∀ x, e.summaryWait = some x → x.epoch ≠ n) : e.takingSummary n = none := by
  simpa [Epochs.takingSummary, exchange_filter_other ho, Option.filter_eq_none_iff] using hw

theorem classifySummary_congr {s t : State} {h : Header} (hj : t.judges h = s.judges h) (he : t.epochs = s.epochs)
    (hg : t.engine = s.engine) : t.classifySummary h = s.classifySummary h := by
  unfold State.classifySummary State.inPeriod
  rw [hj, he, hg]

theorem classifySummary_refused {s : State} {h : Header} (hj : s.judges h = false) :
    s.classifySummary h = .refused := by
  simp [State.classifySummary, hj]

theorem classifySummary_late {s : State} {h : Header} (hj : s.judges h = true)
    (ht : s.epochs.takingSummary h.epoch = none) : s.classifySummary h = .late := by
  simp [State.classifySummary, hj, ht]

/-- A SUMMARY of a live context's epoch is classified by the context's void reason, the mode, and the store. -/
theorem classifySummary_live {s : State} {h : Header} {c : Context} (hj : s.judges h = true)
    (ht : s.epochs.takingSummary h.epoch = some c) :
    (c.void ≠ none ∨ s.engine.mode = some .period → s.classifySummary h = .unpaired)
    ∧ (c.void = none → s.engine.mode ≠ some .period →
      ((∃ m ∈ c.summaries, m.source = h.source) → s.classifySummary h = .duplicate)
      ∧ ((∀ m ∈ c.summaries, m.source ≠ h.source) → s.classifySummary h = .stored)) := by
  refine ⟨fun hv => ?_, fun hv hm => ⟨fun hd => ?_, fun hd => ?_⟩⟩
  · have : (c.void.isSome || s.inPeriod) = true := by
      simpa [State.inPeriod, Option.isSome_iff_ne_none] using hv
    simp [State.classifySummary, hj, ht, this]
  · simpa [State.classifySummary, hj, ht, hv, State.inPeriod, hm] using hd
  · simpa [State.classifySummary, hj, ht, hv, State.inPeriod, hm] using hd

/-! ### The summary stores (R34, R38) -/

/-- The context with one more summary in its store. -/
def storing (c : Context) (m : Summary) : Context := { c with summaries := c.summaries ++ [m] }

theorem mayEarly_iff {c : Context} : c.mayEarly = true ↔
    ∀ p ∈ c.pairs, ∀ vs, p.state = .done vs → ∃ m ∈ c.summaries, m.source = p.peer := by
  simp only [Context.mayEarly, List.all_eq_true, List.any_eq_true, decide_eq_true_eq, donePairs,
    List.mem_filterMap]
  refine ⟨fun h p hp vs hvs => h ⟨p.peer, vs⟩ ⟨p, hp, by rw [hvs]⟩, ?_⟩
  rintro h e ⟨p, hp, he⟩
  split at he
  · next vs hvs => obtain rfl := Option.some.inj he; exact h p hp vs hvs
  · exact absurd he nofun

theorem storeSummary_exchange {s : State} {c : Context} (m : Summary) (hx : s.epochs.exchange = some c) :
    s.storeSummary c.epoch m = s.withEpochs { s.epochs with exchange := some (storing c m) } := by
  simp [State.storeSummary, hx, Option.filter, Context.store, storing]

/-- Stored in SUMMARY_WAIT it triggers the solve when every DONE peer then has a summary. -/
theorem storeSummary_summaryWait {s : State} {c : Context} (m : Summary)
    (ho : ∀ x, s.epochs.exchange = some x → x.epoch ≠ c.epoch) (hw : s.epochs.summaryWait = some c) :
    ((storing c m).mayEarly = false →
      s.storeSummary c.epoch m = s.withEpochs { s.epochs with summaryWait := some (storing c m) })
    ∧ ((storing c m).mayEarly = true →
      s.storeSummary c.epoch m = (s.withEpochs { s.epochs with summaryWait := none }).withSolver
        { s.solver with waiting := s.solver.waiting ++ [storing c m] }) := by
  have stored : s.storeSummary c.epoch m
      = (s.withEpochs { s.epochs with summaryWait := some (storing c m) }).testEarly := by
    simp [State.storeSummary, exchange_filter_other ho, hw, Context.store, storing]
  refine ⟨fun he => ?_, fun he => ?_⟩
  · simp [stored, State.testEarly, he]
  · simp [stored, State.testEarly, he, State.triggerSolve]
    rfl

theorem applySummary_frame (s : State) (h : Header) (es : List SummaryEntry) (k : SummaryClass) :
    (s.applySummary h es k).control = s.control ∧ (s.applySummary h es k).link = s.link := by
  cases k with
  | stored => simp only [State.applySummary, State.storeSummary]; split <;> simp
  | duplicate | late => simp [State.applySummary]
  | unpaired | refused => exact ⟨rfl, rfl⟩

/-! ### The record's command -/

theorem onKind_of_handOn {s : State} {r : RxRecord} {k : Kind} (act : State → RxRecord → State)
    (hon : s.link.handOn = some (.record r)) (hk : r.header.kind = k.code) :
    s.onKind k act = (act (s.withLink { s.link with handOn := none }) r).drain := by
  simp [State.onKind, State.onRecord, RxRecord.isKind, hon, hk]

/-- The station has taken the record handed on and heard its source. -/
def heardOf (s : State) (r : RxRecord) : State := (s.withLink { s.link with handOn := none }).hear r.header

@[simp] theorem heardOf_frame (s : State) (r : RxRecord) :
    (heardOf s r).control = s.control ∧ (heardOf s r).epochs = s.epochs ∧ (heardOf s r).engine = s.engine
    ∧ (heardOf s r).solver = s.solver ∧ (heardOf s r).verdicts = s.verdicts
    ∧ (heardOf s r).link = { s.link with handOn := none } := by
  simp [heardOf]

/-- A station at rest is handed a SUMMARY, its FIFO empty. -/
structure SummaryWaits (s : State) (r : RxRecord) (es : List SummaryEntry) : Prop where
  atRest : s.atRest
  handOn : s.link.handOn = some (.record r)
  fifo : s.link.fifo = []
  kind : r.header.kind = 3
  body : r.body = .summary es

theorem heardOf_judges (s : State) (r : RxRecord) (h : Header) : (heardOf s r).judges h = s.judges h :=
  judges_congr (by simp) (by simp) (by simp) h

/-- What the station hears of the SUMMARY itself does not touch its class. -/
theorem classifySummary_heard (s : State) (r : RxRecord) (es : List SummaryEntry) :
    (((heardOf s r).noteNamed r.header es).noteOtherRun r.header).classifySummary r.header
      = s.classifySummary r.header := by
  refine classifySummary_congr (judges_congr ?_ ?_ ?_ _) ?_ ?_ <;> simp

section
variable {s : State} {r : RxRecord} {es : List SummaryEntry}

/-- The SUMMARY is heard, its peers are made known, a missed run is noted, and its class acts; then a PRESENCE is made
if one is due. -/
theorem SummaryWaits.exec_classified (w : SummaryWaits s r es) :
    exec .summaryRecord s = .next ((((heardOf s r).noteNamed r.header es).noteOtherRun r.header).applySummary
      r.header es (s.classifySummary r.header)).settlePresence := by
  have act : (s.withLink { s.link with handOn := none }).takeSummary r
      = (((heardOf s r).noteNamed r.header es).noteOtherRun r.header).applySummary r.header es
        (s.classifySummary r.header) := by
    rw [State.takeSummary, w.body, ← classifySummary_heard s r es]
    rfl
  have fifo : ((s.withLink { s.link with handOn := none }).takeSummary r).link.fifo = [] := by
    rw [act, (applySummary_frame _ _ _ _).2]
    simpa using w.fifo
  have onKind := onKind_of_handOn State.takeSummary w.handOn (k := .summary) w.kind
  rw [State.drain_of_empty fifo, act] at onKind
  exact event_of_atRest (act := (State.onKind · .summary State.takeSummary)) w.atRest onKind

/-- A SUMMARY that R36 refuses is only heard, and a missed run noted. -/
theorem SummaryWaits.exec_refused (w : SummaryWaits s r es) (hj : s.judges r.header = false) :
    exec .summaryRecord s = .next ((heardOf s r).noteOtherRun r.header).settlePresence := by
  rw [w.exec_classified, classifySummary_refused hj, noteNamed_of_not_judges ((heardOf_judges s r _).trans hj)]
  rfl

/-- A SUMMARY of the station's own run and setup makes its peers known, and its class acts. -/
theorem SummaryWaits.exec_judged (w : SummaryWaits s r es) (hj : s.judges r.header = true) {k : SummaryClass}
    (hk : s.classifySummary r.header = k) :
    exec .summaryRecord s = .next (((heardOf s r).noteNamed r.header es).applySummary r.header es k) := by
  obtain ⟨-, hrun, -⟩ := judges_iff.1 hj
  rw [w.exec_classified, hk, noteOtherRun_of_sameRun (by simpa using hrun), State.settlePresence_of_settled]
  simpa [applySummary_frame] using w.atRest.2

/-- For a live context's epoch it is unpaired, a duplicate, or stored. -/
theorem SummaryWaits.exec_live (w : SummaryWaits s r es) (hj : s.judges r.header = true) {c : Context}
    (ht : s.epochs.takingSummary r.header.epoch = some c) :
    (c.void ≠ none ∨ s.engine.mode = some .period →
      exec .summaryRecord s = .next ((heardOf s r).noteNamed r.header es))
    ∧ (c.void = none → s.engine.mode ≠ some .period → (∃ m ∈ c.summaries, m.source = r.header.source) →
      exec .summaryRecord s = .next (((heardOf s r).noteNamed r.header es).countDuplicate r.header.source))
    ∧ (c.void = none → s.engine.mode ≠ some .period → (∀ m ∈ c.summaries, m.source ≠ r.header.source) →
      exec .summaryRecord s = .next (((heardOf s r).noteNamed r.header es).storeSummary r.header.epoch
        { source := r.header.source, entries := es })) := by
  obtain ⟨unpaired, live⟩ := classifySummary_live hj ht
  refine ⟨fun hv => w.exec_judged hj (unpaired hv), fun hv hm hd => ?_, fun hv hm hd => ?_⟩
  · exact w.exec_judged hj ((live hv hm).1 hd)
  · exact w.exec_judged hj ((live hv hm).2 hd)

end

/-! ### The counts of troubled records (R100) -/

/-- Acting on one entry leaves all but the roster, and there every other entry. -/
theorem onPeer_changes_one {s : State} {j : Nat} {f : RosterEntry → RosterEntry} (hs : s.rosterSound)
    (hf : ∀ e, (f e).peer = e.peer) (hj : j ≤ 23) (hn : j ≠ s.control.number) :
    s.onPeer j f = { s with roster := (s.onPeer j f).roster }
    ∧ rosterFind (s.onPeer j f).roster j = some (f ((rosterFind s.roster j).getD (RosterEntry.fresh j)))
    ∧ ∀ i, i ≠ j → rosterFind (s.onPeer j f).roster i = rosterFind s.roster i := by
  refine ⟨onPeer_eq s j f, ?_, fun i hi => ?_⟩
  · rw [rosterFind_onPeer hs hf hj hn, if_pos rfl]
  · rw [rosterFind_onPeer hs hf hj hn, if_neg hi]

/-! ### The statement -/

/-- Settles O53: the class names the effect, the stores and counts say what it is. -/
theorem summaryIsStoredOrCounted : Obligations.SummaryIsStoredOrCounted := by
  refine ⟨?_, fun s h es hs hrun hr hd => noteNamed_spec s h es hs (judges_iff.2 ⟨hrun, hr, hd⟩),
    fun s j hs => ⟨fun hj => ?_, fun hj hn => ?_⟩⟩
  · intro s r es hrest hon hf hk hb j taken heard named stored early
    have w : SummaryWaits s r es := ⟨hrest, hon, hf, hk, hb⟩
    have hdue : (heardOf s r).control.presenceDue = false := by simpa using hrest.2
    refine ⟨fun hr href => ?_, fun hr => ?_, fun hrun hr hd => ?_⟩
    · rw [w.exec_refused (not_judges_of_refused href), noteOtherRun_of_sameRun (by simpa using hr),
        State.settlePresence_of_settled hdue]
      rfl
    · have missed := outcome_of_otherRun (w.exec_refused (not_judges_of_otherRun hr)) hdue (by simpa using hr)
      simp only [heardOf_frame] at missed
      exact missed
    · have hj : s.judges r.header = true := judges_iff.2 ⟨hrun, hr, hd⟩
      have hnamed : named.epochs = s.epochs ∧ named.solver = s.solver := by simp [named, heard, taken]
      obtain ⟨hepochs, hsolver⟩ := hnamed
      refine ⟨fun e he hle hne => ?_, fun c hx hc => ?_, fun ho => ⟨fun c hw hc => ?_, fun hw => ?_⟩⟩
      · exact noteNamed_knows ((heardOf_judges s r _).trans hj) he hle (by simpa using hne)
      · obtain ⟨unpaired, duplicate, store⟩ := w.exec_live hj (hc ▸ takingSummary_exchange hx)
        refine ⟨unpaired, duplicate, fun hv hm hd => (store hv hm hd).trans (congrArg _ ?_)⟩
        rw [← hc, ← hepochs]
        exact storeSummary_exchange _ (hepochs ▸ hx)
      · rw [← hc] at ho
        obtain ⟨unpaired, duplicate, store⟩ := w.exec_live hj (hc ▸ takingSummary_summaryWait ho hw)
        obtain ⟨later, now⟩ := storeSummary_summaryWait (s := named) { source := j, entries := es }
          (hepochs ▸ ho) (hepochs ▸ hw)
        rw [hc, hepochs] at later now
        rw [hsolver] at now
        refine ⟨unpaired, duplicate, fun hv hm hd => ⟨fun he => ?_, fun he => ?_⟩⟩
        · exact (store hv hm hd).trans (congrArg _ (later (Bool.eq_false_iff.2 fun h => he (mayEarly_iff.1 h))))
        · exact (store hv hm hd).trans (congrArg _ (now (mayEarly_iff.2 he)))
      · exact w.exec_judged hj (classifySummary_late hj (takingSummary_none ho hw))
  · exact ⟨onPeer_of_not_mayHold hj _, onPeer_of_not_mayHold hj _, onPeer_of_not_mayHold hj _⟩
  · exact ⟨onPeer_changes_one hs (fun _ => rfl) hj hn, onPeer_changes_one hs (fun _ => rfl) hj hn,
      onPeer_changes_one hs (fun _ => rfl) hj hn⟩

end Sys2Proof.Machine.Intake
end

section
/-! SUPPORT. SOLVE_BEGIN: the oldest waiting solve begins (R35, R128). -/

namespace Sys2Proof.Machine.Intake

theorem exchanges_iff {s : State} {c : Context} :
    s.exchanges c = true ↔ c.void = none ∧ s.engine.mode ≠ some .period := by
  simp [State.exchanges, State.inPeriod]

theorem beginSolve_of_waiting {s : State} {c : Context} {rest : List Context} (hr : s.solver.running = none)
    (hh : s.engine.inHand = none) (hw : s.solver.waiting = c :: rest) :
    s.beginSolve = s.withSolver
      { running := some { context := c, suspects := if s.exchanges c then s.suspects else [] }, waiting := rest } := by
  simp [State.beginSolve, hr, hh, hw]

/-- Settles O29: whether the solve is measured is read off its context and the mode. -/
theorem solveBeginsWithTheSuspectReading : Obligations.SolveBeginsWithTheSuspectReading := by
  intro s c rest hrest hrun hhand hwait runs
  have hbegin := beginSolve_of_waiting hrun hhand hwait
  refine ⟨fun hv hm => ?_, fun hne => ?_⟩
  · have measured : s.exchanges c = true := exchanges_iff.2 ⟨hv, by simp [hm]⟩
    rw [measured] at hbegin
    exact event_of_settled hrest hbegin hrest.2
  · have unmeasured : ¬ s.exchanges c = true := fun hx => by
      obtain ⟨hv, hm⟩ := exchanges_iff.1 hx
      exact hne.elim (· hv) hm
    rw [if_neg unmeasured] at hbegin
    exact event_of_settled hrest hbegin hrest.2

end Sys2Proof.Machine.Intake
end

section
/-! SUPPORT. PAIR_ENGINE_FRAME_DONE: the residuals that bytes hold (R85, R116), and what a finished frame leaves of
its pair entry (R115, R117, R118). -/

namespace Sys2Proof.Machine.Contents

open Sys2Proof.Machine.Intake

/-! ### Residuals as bytes (R85, R116) -/

theorem natOf_three (a b c : Byte) : natOf [a, b, c] = a.toNat * 65536 + b.toNat * 256 + c.toNat := by
  simp only [natOf, List.foldl_cons, List.foldl_nil]
  omega

/-- Two's complement over three bytes, its lowest value raised by one. -/
theorem residualOf_three (a b c : Byte) : residualOf [a, b, c] = max (-8388607)
    (if natOf [a, b, c] < 8388608 then (natOf [a, b, c] : Int) else (natOf [a, b, c] : Int) - 16777216) := by
  have half : 2 * natOf [a, b, c] < 256 ^ [a, b, c].length ↔ natOf [a, b, c] < 8388608 := by
    simp only [List.length_cons, List.length_nil]
    omega
  have range : (256 : Int) ^ [a, b, c].length = 16777216 := by norm_num
  simp only [residualOf, signedOf, half, range, Config.residualBound]

theorem splitResiduals_cons (a b c : Byte) (rest : List Byte) : splitResiduals (a :: b :: c :: rest)
    = (residualOf [a, b, c] :: (splitResiduals rest).1, (splitResiduals rest).2) := rfl

theorem thirds_cons (a b c : Byte) (rest : List Byte) : (a :: b :: c :: rest).length / 3 = rest.length / 3 + 1 := by
  simp only [List.length_cons]
  omega

theorem splitResiduals_length : ∀ bs : List Byte, (splitResiduals bs).1.length = bs.length / 3
  | a :: b :: c :: rest => by
    rw [splitResiduals_cons, thirds_cons, List.length_cons, splitResiduals_length rest]
  | [] | [_] | [_, _] => by simp [splitResiduals]

theorem splitResiduals_left : ∀ bs : List Byte, (splitResiduals bs).2 = bs.drop (3 * (bs.length / 3))
  | a :: b :: c :: rest => by
    rw [splitResiduals_cons, thirds_cons, splitResiduals_left rest]
    rfl
  | [] | [_] | [_, _] => by simp [splitResiduals]

theorem splitResiduals_getD : ∀ (bs : List Byte) (i : Nat), i < bs.length / 3 → (splitResiduals bs).1.getD i 0
    = residualOf [bs.getD (3 * i) 0, bs.getD (3 * i + 1) 0, bs.getD (3 * i + 2) 0]
  | _ :: _ :: _ :: _, 0, _ => rfl
  | a :: b :: c :: rest, i + 1, hi => by
    rw [thirds_cons] at hi
    exact splitResiduals_getD rest i (Nat.lt_of_succ_lt_succ hi)
  | [], _, hi | [_], _, hi | [_, _], _, hi => absurd hi (by simp)

/-! ### The pair entry of the frame in hand -/

theorem setExchangePair_of_exchange {s : State} {c : Context} (hx : s.epochs.exchange = some c) (j : Nat)
    (st : PairState) : s.setExchangePair j st
      = s.withEpochs { s.epochs with exchange := some { c with pairs := setPair j st c.pairs } } := by
  simp only [State.setExchangePair, hx, Option.map_some]

/-- The residuals that the frame completes, and the bytes it leaves over. -/
def readOf (s : State) (f : FrameInHand) : List Int × List Byte := splitResiduals (s.engine.work.split ++ f.bytes)

/-- The entry's next index, the differences held and the sums after those residuals. -/
def consumedOf (s : State) (f : FrameInHand) (own : OwnStore) (sums : List Nat) (next : Nat) :
    Nat × List (List Int) × List Nat :=
  consume own.residuals (readOf s f).1 next s.engine.work.held sums

/-- The engine has this frame in hand, and its peer's entry in the open context is RECEIVING. -/
structure FrameDue (s : State) (f : FrameInHand) (c : Context) (own : OwnStore) (sums : List Nat) (next : Nat) :
    Prop where
  inHand : s.engine.inHand = some f
  exchange : s.epochs.exchange = some c
  ownStore : s.engine.ownStore = some own
  receiving : pairOf c.pairs f.peer = some (.receiving sums next)

section
variable {s : State} {f : FrameInHand} {c : Context} {own : OwnStore} {sums : List Nat} {next : Nat}

theorem FrameDue.pairOf_exchange (w : FrameDue s f c own sums next) :
    (s.epochs.exchange.bind fun c => pairOf c.pairs f.peer) = some (.receiving sums next) := by
  rw [w.exchange, Option.bind_some, w.receiving]

/-- The frame's residuals are consumed; what becomes of the entry depends on whether the frame is the LAST, and of
nine bytes. -/
theorem FrameDue.finishFrame_eq (w : FrameDue s f c own sums next) : s.finishFrame =
    if f.last = true then
      if f.bytes.length = 9 then
        (s.setExchangePair f.peer (.done (scaleValues (consumedOf s f own sums next).2.2))).withEngine
          { s.engine with work := WorkBuffer.empty, inHand := none }
      else (s.breakPair f.peer).countBroken f.peer
    else
      (s.setExchangePair f.peer
        (.receiving (consumedOf s f own sums next).2.2 (consumedOf s f own sums next).1)).withEngine
          { s.engine with
            work := { held := (consumedOf s f own sums next).2.1, split := (readOf s f).2 }, inHand := none } := by
  simp only [State.finishFrame, w.inHand, w.pairOf_exchange, w.ownStore]
  rfl

/-- Breaking a RECEIVING entry discards the frame in hand and what the work buffer holds. -/
theorem FrameDue.breakPair_eq (w : FrameDue s f c own sums next) :
    s.breakPair f.peer = (s.setExchangePair f.peer .broken).withEngine
      { s.engine with work := WorkBuffer.empty, inHand := none } := by
  simp only [State.breakPair, w.pairOf_exchange, State.setExchangePair_frame]

end

/-! ### The statement -/

/-- Settles O28: the finished frame's three outcomes, and by recursion over the bytes what residuals they hold. -/
theorem finishedFrameUpdatesItsPairEntry : Obligations.FinishedFrameUpdatesItsPairEntry := by
  refine ⟨?_, fun bs => ⟨splitResiduals_length bs, splitResiduals_left bs, fun i hi => ?_⟩⟩
  · intro s c own f sums next hrest hhand hx hown hpair read out entry
    have w : FrameDue s f c own sums next := ⟨hhand, hx, hown, hpair⟩
    have finish := w.finishFrame_eq
    refine ⟨fun hl => ?_, fun hl h9 => ?_, fun hl h9 => ?_⟩
    · rw [if_neg (by simp [hl]), setExchangePair_of_exchange hx] at finish
      exact event_of_settled hrest finish hrest.2
    · rw [if_pos hl, if_pos h9, setExchangePair_of_exchange hx] at finish
      exact event_of_settled hrest finish hrest.2
    · rw [if_pos hl, if_neg h9, w.breakPair_eq, setExchangePair_of_exchange hx] at finish
      exact event_of_settled hrest finish (by simpa using hrest.2)
  · rw [splitResiduals_getD bs i hi, residualOf_three, natOf_three]

end Sys2Proof.Machine.Contents
end

section
/-! SUPPORT. SETUP: the 42 bytes of the effective setup and their digest (R94), and what run control makes of a SETUP
(R96, R156, R169). -/

namespace Sys2Proof.Machine.Contents

open Sys2Proof.Machine.Intake

/-! ### Fields of a concatenation -/

theorem field_append_left {as bs : List Byte} {offset count : Nat} (h : offset + count ≤ as.length) :
    field (as ++ bs) offset count = field as offset count := by
  rw [field, slice, List.drop_append_of_le_length (by omega), List.take_append_of_le_length, field, slice]
  rw [List.length_drop]
  omega

theorem field_append_right {as bs : List Byte} {offset count n : Nat} (h : offset = as.length + n) :
    field (as ++ bs) offset count = field bs n count := by
  rw [field, slice, h, List.drop_length_add_append, field, slice]

theorem field_bytesOf (count n : Nat) : field (bytesOf count n) 0 count = n % 256 ^ count := by
  rw [field, slice, List.drop_zero, List.take_of_length_le (Nat.le_of_eq (bytesOf_length _ _)), natOf_bytesOf]

/-- The field that ends a concatenation holds the number it was made from. -/
theorem field_append_bytesOf {as : List Byte} {offset count n : Nat} (h : offset = as.length) :
    field (as ++ bytesOf count n) offset count = n % 256 ^ count := by
  rw [field_append_right (n := 0) h, field_bytesOf]

/-- Numbers of one width stand one after another. -/
theorem field_flatMap_bytesOf {count : Nat} : ∀ {ns : List Nat} {k : Nat}, k < ns.length →
    field (ns.flatMap (bytesOf count)) (count * k) count = ns.getD k 0 % 256 ^ count
  | n :: ns, 0, _ => by
    rw [List.flatMap_cons, Nat.mul_zero, field_append_left (by simp), field_bytesOf]
    rfl
  | n :: ns, k + 1, hk => by
    rw [List.flatMap_cons, field_append_right (n := count * k) (by rw [bytesOf_length]; ring),
      field_flatMap_bytesOf (Nat.lt_of_succ_lt_succ hk)]
    rfl

/-- A field read by the positional rule. -/
theorem foldl_eq_field (bs : List Byte) (offset count : Nat) :
    ((bs.drop offset).take count).foldl (fun v b => 256 * v + b.toNat) 0 = field bs offset count := by
  simp only [field, slice, natOf, Nat.mul_comm]

/-! ### The bytes of a setup (R94) -/

section
variable {u : Setup} (h8 : u.limits.length = 8)
include h8

theorem setup_bytes_length : u.bytes.length = 42 := by
  simp [Setup.bytes, h8]

/-- The numbers before and after the limits. -/
theorem setup_bytes_fields :
    field u.bytes 0 1 = u.exponent % 256 ∧ field u.bytes 1 5 = u.tNom % 2 ^ 40
    ∧ field u.bytes 6 3 = u.tolerance % 2 ^ 24 ∧ field u.bytes 9 2 = u.settleEpochs % 65536
    ∧ field u.bytes 11 1 = u.mode.code % 256 ∧ field u.bytes 37 3 = u.figureLimit % 2 ^ 24
    ∧ field u.bytes 40 1 = u.minEpochs % 256 := by
  refine ⟨?_, ?_, ?_, ?_, ?_, ?_, ?_⟩ <;>
    simp (disch := simp [h8]) only [Setup.bytes, field_append_left, field_bytesOf,
      field_append_bytesOf] <;>
    rfl

theorem setup_bytes_limits {k : Nat} (hk : k < 8) : field u.bytes (12 + 3 * k) 3 = u.limits.getD k 0 % 2 ^ 24 := by
  simp (disch := (simp [h8]; omega)) only [Setup.bytes, field_append_left]
  rw [field_append_right (n := 3 * k) (by simp), field_flatMap_bytesOf (h8.symm ▸ hk)]
  rfl

theorem setup_bytes_masks : byteAt u.bytes 36 = u.figureMask ∧ byteAt u.bytes 41 = u.mask.setWidth 8 := by
  simp [byteAt, Setup.bytes, h8]

end

/-! ### The digest (R94) -/

theorem digestBit_eq (r : Byte) (b : Bool) :
    digestBit r b = if r.msb = b then r <<< 1 else (r <<< 1) ^^^ 0x07 := by
  unfold digestBit
  cases r.msb <;> cases b <;> rfl

theorem bitsOf_append (as bs : List Byte) : bitsOf (as ++ bs) = bitsOf as ++ bitsOf bs := List.flatMap_append

/-- A further byte's bits are taken one by one, most significant first. -/
theorem digestOf_append_byte (bs : List Byte) (b : Byte) :
    digestOf (bs ++ [b]) = (List.range 8).foldl (fun r i => digestBit r (b.getMsbD i)) (digestOf bs) := by
  have last : bitsOf [b] = (List.range 8).map b.getMsbD := List.flatMap_singleton _ _
  rw [digestOf, bitsOf_append, List.foldl_append, last, List.foldl_map, digestOf]

/-! ### The roster's comparison (R96) -/

/-- Digests that differ make ALIEN; equal ones end UNHEARD and ALIEN. -/
theorem afterHearing_digest (p : PeerState) (d own : Byte) : p.afterHearing (d = own) =
    if d ≠ own then .alien else if p = .unheard ∨ p = .alien then .heard else p := by
  by_cases h : d = own
  · cases p <;> simp [h, PeerState.afterHearing]
  · simp [h, PeerState.afterHearing]

/-- Each entry's digest last heard, if there is one, is compared with the station's own. -/
theorem recheckDigests_roster {s : State} {own : Byte} (ho : s.ownDigest = own) {g : RosterEntry → RosterEntry}
    (hsome : ∀ e d, e.digest = some d → g e = { e with state := e.state.afterHearing (d = own) })
    (hnone : ∀ e, e.digest = none → g e = e) : s.recheckDigests.roster = s.roster.map g := by
  refine List.map_congr_left fun e _ => ?_
  cases hd : e.digest with
  | none => exact (hnone e hd).symm
  | some d => simp only [hd, hsome e d hd, ho]

/-! ### A SETUP at run control (R169) -/

theorem accepted_iff {f : SetupFields} :
    f.accepted = true ↔ 32000 * 65536 ≤ f.tNom ∧ f.tNom ≤ 8000000 * 65536 := by
  simp [SetupFields.accepted]

theorem mayTakeSetup_iff {s : State} :
    s.mayTakeSetup = true ↔ s.control.state = .awaitSetup ∨ s.control.state = .ready := by
  simp [State.mayTakeSetup]

/-- Setup and digest are stored, the mask is taken over, and the roster is compared with the new digest. -/
theorem acceptSetup_eq {s : State} {f : SetupFields} {u : Setup} (hu : f.effective = u)
    {g : RosterEntry → RosterEntry}
    (hsome : ∀ e d, e.digest = some d → g e = { e with state := e.state.afterHearing (d = digestOf u.bytes) })
    (hnone : ∀ e, e.digest = none → g e = e) : s.acceptSetup f = { s with
      control := { s.control with held := some { setup := u, digest := digestOf u.bytes }, state := .ready }
      verdicts := { s.verdicts with mask := u.mask }
      roster := s.roster.map g } := by
  subst hu
  have own : ((s.withControl { s.control with held := some f.store, state := .ready }).withVerdicts
      { s.verdicts with mask := f.effective.mask }).ownDigest = digestOf f.effective.bytes := by
    simp only [State.ownDigest, State.withVerdicts_control, State.withControl_control, SetupFields.store]
  have roster := recheckDigests_roster own hsome hnone
  simp only [State.withVerdicts_roster, State.withControl_roster] at roster
  rw [← roster]
  rfl

/-- A station at rest is handed a SETUP, its FIFO empty. -/
structure SetupWaits (s : State) (r : RxRecord) (f : SetupFields) : Prop where
  atRest : s.atRest
  handOn : s.link.handOn = some (.record r)
  fifo : s.link.fifo = []
  kind : r.header.kind = 8
  body : r.body = .setup f

/-- The station has taken what record assembly handed on. -/
def takenOn (s : State) : State := s.withLink { s.link with handOn := none }

section
variable {s : State} {r : RxRecord} {f : SetupFields}

/-- Run control acts on the SETUP; then a PRESENCE is made if one is due. -/
theorem SetupWaits.exec_eq (w : SetupWaits s r f) {t : State} (ht : (takenOn s).takeSetup r = t)
    (hf : t.link.fifo = []) : exec .setup s = .next t.settlePresence := by
  have onKind := onKind_of_handOn State.takeSetup w.handOn (k := .setup) w.kind
  rw [takenOn] at ht
  rw [ht, State.drain_of_empty hf] at onKind
  exact event_of_atRest (act := (State.onKind · .setup State.takeSetup)) w.atRest onKind

theorem SetupWaits.exec_ignored (w : SetupWaits s r f) (hm : s.mayTakeSetup = false) :
    exec .setup s = .next (takenOn s) := by
  have ignored : (takenOn s).takeSetup r = takenOn s := by
    rw [State.takeSetup, w.body]
    exact if_neg (Bool.eq_false_iff.1 hm)
  rw [w.exec_eq ignored w.fifo, State.settlePresence_of_settled (s := takenOn s) w.atRest.2]

/-- In AWAIT_SETUP and READY the SETUP is accepted or refused by its nominal period, and a PRESENCE is made. -/
theorem SetupWaits.exec_taken (w : SetupWaits s r f) (hm : s.mayTakeSetup = true) {t : State}
    (ht : (if f.accepted then (takenOn s).acceptSetup f else takenOn s) = t) :
    exec .setup s = .next t.presenceMade := by
  have act : (takenOn s).takeSetup r = t.presenceDue := by
    rw [State.takeSetup, w.body, ← ht]
    exact if_pos hm
  have kept : t.link.fifo = [] ∧ t.control.presenceDue = false
      ∧ (t.control.state = .awaitSetup ∨ t.control.state = .ready) := by
    rw [← ht]
    split
    · exact ⟨w.fifo, w.atRest.2, .inr rfl⟩
    · exact ⟨w.fifo, w.atRest.2, mayTakeSetup_iff.1 hm⟩
  obtain ⟨fifo, due, state⟩ := kept
  rw [w.exec_eq act fifo, settlePresence_presenceDue due] <;> rcases state with h | h <;> simp [h]

end

/-! ### The statement -/

/-- Settles O55: the nominal period decides between the two outcomes, and the digest is over the setup's 42 bytes. -/
theorem setupIsClampedOrRefused : Obligations.SetupIsClampedOrRefused := by
  refine ⟨?_, fun u h8 => ?_, rfl, fun bs b => ?_⟩
  · intro s r f hrest hon hfifo hkind hbody taken u compared
    have w : SetupWaits s r f := ⟨hrest, hon, hfifo, hkind, hbody⟩
    refine ⟨fun hst => ⟨fun hout => ?_, fun hlo hhi => ?_⟩, fun hst => w.exec_ignored ?_⟩
    · have refused : ¬ f.accepted = true := fun ha => by
        have := accepted_iff.1 ha
        omega
      exact w.exec_taken (mayTakeSetup_iff.2 hst) (if_neg refused)
    · refine w.exec_taken (mayTakeSetup_iff.2 hst) ((if_pos (accepted_iff.2 ⟨hlo, hhi⟩)).trans ?_)
      refine acceptSetup_eq (u := u) rfl (fun e d hd => ?_) fun e hd => ?_
      · simp only [hd, afterHearing_digest, compared]
      · simp only [hd]
    · rw [Bool.eq_false_iff, Ne, mayTakeSetup_iff]
      rcases hst with hst | hst <;> simp [hst]
  · obtain ⟨exponent, tNom, tolerance, settle, mode, figure, minEpochs⟩ := setup_bytes_fields h8
    obtain ⟨figureMask, mask⟩ := setup_bytes_masks h8
    simp only [foldl_eq_field]
    refine ⟨setup_bytes_length h8, exponent, tNom, tolerance, settle, ?_, fun k hk => setup_bytes_limits h8 hk,
      figureMask, figure, minEpochs, mask⟩
    rw [mode]
    cases u.mode <;> rfl
  · rw [digestOf_append_byte]
    simp only [digestBit_eq]

end Sys2Proof.Machine.Contents
end

section
/-! SUPPORT. The pair engine's arithmetic: what the scale sums of R109 come to in closed form, that the engine's running
sums over what it holds back are those sums (R115, R116), and the self values (R111, R121). -/

namespace Sys2Proof.Machine.Scales

open Sys2Proof.Machine.Intake

/-! ### The scale sums (R109) -/

theorem getD_map_range {α : Type} {f : Nat → α} {z : α} {n k : Nat} (hk : k < n) :
    ((List.range n).map f).getD k z = f k := by
  rw [List.getD_eq_getElem _ _ (by simpa using hk)]
  simp only [List.getElem_map, List.getElem_range]

theorem sumOfTerms_eq_sum : ∀ xs : List Int, sumOfTerms xs
    = ((List.range (xs.length - 2)).map fun t => squaredTerm (xs.getD t 0) (xs.getD (t + 1) 0) (xs.getD (t + 2) 0)).sum
  | a :: b :: d :: rest => by
    have size : (a :: b :: d :: rest).length - 2 = ((b :: d :: rest).length - 2) + 1 := rfl
    rw [sumOfTerms, sumOfTerms_eq_sum (b :: d :: rest), size, List.range_succ_eq_map, List.map_cons, List.sum_cons,
      List.map_map]
    rfl
  | [] | [_] | [_, _] => rfl

theorem everyNth_length {k : Nat} (hk : k < 8) (ds : List Int) : (everyNth ds k).length = 2 ^ (11 - k) := by
  rw [everyNth, List.length_map, List.length_range]
  exact Nat.pow_div (x := 2) (m := 11) (show k ≤ 11 by omega) Nat.two_pos

theorem everyNth_getD {k t : Nat} {ds : List Int} (ht : t < (everyNth ds k).length) :
    (everyNth ds k).getD t 0 = ds.getD (t * 2 ^ k) 0 :=
  getD_map_range (by simpa only [everyNth, List.length_map, List.length_range] using ht)

theorem scaleSum_eq_sum {k : Nat} (hk : k < 8) (ds : List Int) : scaleSum ds k
    = ((List.range (2 ^ (11 - k) - 2)).map fun t => squaredTerm
        (ds.getD (t * 2 ^ k) 0) (ds.getD ((t + 1) * 2 ^ k) 0) (ds.getD ((t + 2) * 2 ^ k) 0)).sum := by
  have size := everyNth_length hk ds
  rw [scaleSum, sumOfTerms_eq_sum, size]
  refine congrArg List.sum (List.map_congr_left fun t ht => ?_)
  have inside : t < 2 ^ (11 - k) - 2 := List.mem_range.1 ht
  rw [everyNth_getD (by omega), everyNth_getD (by omega), everyNth_getD (by omega)]

/-! ### Rounding (R109) -/

/-- The rounded quotient lies less than a half above `num / den` and at most a half below it, on the side that sends
halves up. -/
theorem roundHalfUp_bounds {num den : Nat} (hd : 0 < den) :
    2 * num < (2 * roundHalfUp num den + 1) * den ∧ 2 * roundHalfUp num den * den ≤ 2 * num + den := by
  have parts : den * (num / den) + num % den = num := Nat.div_add_mod num den
  have below : num % den < den := Nat.mod_lt num hd
  have least : 0 ≤ num % den := Nat.zero_le _
  unfold roundHalfUp
  split <;> constructor <;> linarith

theorem termCount_pos {k : Nat} (hk : k < 8) : 0 < termCount k := by
  have terms : 2 ^ 4 ≤ 2 ^ (11 - k) := Nat.pow_le_pow_right (by decide) (by omega)
  unfold termCount
  omega

/-! ### The negated sequence

The peer differences the same two sequences the other way round. -/

theorem squaredTerm_neg (a b d : Int) : squaredTerm (-a) (-b) (-d) = squaredTerm a b d := by
  have negated : -d - 2 * -b + -a = -(d - 2 * b + a) := by ring
  rw [squaredTerm, negated, Int.natAbs_neg, squaredTerm]

theorem sumOfTerms_neg : ∀ xs : List Int, sumOfTerms (xs.map (- ·)) = sumOfTerms xs
  | a :: b :: d :: rest => by
    have tail := sumOfTerms_neg (b :: d :: rest)
    simp only [List.map_cons] at tail
    simp only [List.map_cons, sumOfTerms, squaredTerm_neg, tail]
  | [] | [_] | [_, _] => rfl

theorem everyNth_neg (ds : List Int) (k : Nat) : everyNth (ds.map (- ·)) k = (everyNth ds k).map (- ·) := by
  have entry (i : Nat) : (ds.map (- ·)).getD i 0 = -ds.getD i 0 :=
    List.getD_map ds (0 : Int) (- ·)
  simp only [everyNth, entry, List.map_map, Function.comp_def]

theorem scaleSum_neg (ds : List Int) (k : Nat) : scaleSum (ds.map (- ·)) k = scaleSum ds k := by
  rw [scaleSum, everyNth_neg, sumOfTerms_neg, scaleSum]

theorem differences_swap (a b : List Int) : List.zipWith (· - ·) b a = (List.zipWith (· - ·) a b).map (- ·) := by
  rw [List.zipWith_comm, List.map_zipWith]
  simp only [neg_sub]

/-! ### One scale (R116) -/

/-- What a scale keeps of the values it took. -/
def lastTwo : List Int → List Int
  | _ :: b :: d :: rest => lastTwo (b :: d :: rest)
  | xs => xs

/-- A scale that holds the last two of the values it took, and their sum on top of any `n`, takes one more. -/
theorem scaleTakes_lastTwo (x : Int) : ∀ (xs : List Int) (n : Nat),
    scaleTakes x (lastTwo xs, n + sumOfTerms xs) = (lastTwo (xs ++ [x]), n + sumOfTerms (xs ++ [x]))
  | a :: b :: d :: rest, n => by
    have tail := scaleTakes_lastTwo x (b :: d :: rest) (n + squaredTerm a b d)
    simp only [List.cons_append] at tail
    simp only [List.cons_append, lastTwo, sumOfTerms, ← Nat.add_assoc, tail]
  | [], _ | [_], _ | [_, _], _ => rfl

/-- The values with an index below `i` that scale `k` takes, i / 2^k rounded up in number. -/
def takenBefore (ds : List Int) (k i : Nat) : List Int :=
  (List.range ((i + 2 ^ k - 1) / 2 ^ k)).map fun t => ds.getD (t * 2 ^ k) 0

theorem takenBefore_zero (ds : List Int) (k : Nat) : takenBefore ds k 0 = [] := by
  have nothing : (0 + 2 ^ k - 1) / 2 ^ k = 0 := Nat.div_eq_of_lt (by have := Nat.two_pow_pos k; omega)
  rw [takenBefore, nothing, List.range_zero, List.map_nil]

theorem takenBefore_succ (ds : List Int) (k i : Nat) : takenBefore ds k (i + 1)
    = if i % 2 ^ k = 0 then takenBefore ds k i ++ [ds.getD i 0] else takenBefore ds k i := by
  have span : 0 < 2 ^ k := Nat.two_pow_pos k
  have shift : i + 1 + 2 ^ k - 1 = (i + 2 ^ k - 1) + 1 := by omega
  have back : i + 2 ^ k - 1 + 1 = i + 2 ^ k := by omega
  rw [takenBefore, shift, Nat.succ_div]
  simp only [back, Nat.dvd_iff_mod_eq_zero, Nat.add_mod_right]
  split
  next divides =>
    obtain ⟨q, rfl⟩ := Nat.dvd_of_mod_eq_zero divides
    have count : (2 ^ k * q + 2 ^ k - 1) / 2 ^ k = q := by
      rw [Nat.add_sub_assoc span, Nat.mul_add_div span, Nat.div_eq_of_lt (by omega), Nat.add_zero]
    rw [takenBefore, count, List.range_succ, List.map_append, List.map_singleton, Nat.mul_comm q]
  next => rfl

theorem takenBefore_end {k : Nat} (hk : k < 8) (ds : List Int) : takenBefore ds k 2048 = everyNth ds k := by
  have count : ∀ k < 8, (2048 + 2 ^ k - 1) / 2 ^ k = 2048 / 2 ^ k := by decide
  rw [takenBefore, count k hk, everyNth]

/-! ### The eight scales (R115, R116) -/

/-- What the scales hold of the differences below index `i`. -/
def heldBefore (ds : List Int) (i : Nat) : List (List Int) := (List.range 8).map fun k => lastTwo (takenBefore ds k i)

/-- The scales' sums over the differences below index `i`. -/
def sumsBefore (ds : List Int) (i : Nat) : List Nat := (List.range 8).map fun k => sumOfTerms (takenBefore ds k i)

theorem heldBefore_zero (ds : List Int) : heldBefore ds 0 = WorkBuffer.empty.held := by
  simp only [heldBefore, takenBefore_zero]
  rfl

theorem sumsBefore_zero (ds : List Int) : sumsBefore ds 0 = List.replicate 8 0 := by
  simp only [sumsBefore, takenBefore_zero]
  rfl

theorem sumsBefore_end (ds : List Int) : sumsBefore ds 2048 = (List.range 8).map fun k => scaleSum ds k :=
  List.map_congr_left fun _ hk => congrArg sumOfTerms (takenBefore_end (List.mem_range.1 hk) ds)

theorem scalesTake_before (ds : List Int) (i : Nat) :
    scalesTake i (ds.getD i 0) (heldBefore ds i) (sumsBefore ds i)
      = (heldBefore ds (i + 1), sumsBefore ds (i + 1)) := by
  have scale : ∀ k ∈ List.range 8,
      (if i % 2 ^ k = 0 then scaleTakes (ds.getD i 0) ((heldBefore ds i).getD k [], (sumsBefore ds i).getD k 0)
        else ((heldBefore ds i).getD k [], (sumsBefore ds i).getD k 0))
      = (lastTwo (takenBefore ds k (i + 1)), sumOfTerms (takenBefore ds k (i + 1))) := by
    intro k hk
    have takes := scaleTakes_lastTwo (ds.getD i 0) (takenBefore ds k i) 0
    simp only [Nat.zero_add] at takes
    rw [heldBefore, sumsBefore, getD_map_range (List.mem_range.1 hk), getD_map_range (List.mem_range.1 hk),
      takenBefore_succ]
    split
    · exact takes
    · rfl
  simp only [scalesTake, List.map_congr_left scale, List.map_map]
  rfl

theorem consume_cons (own : List Int) (r : Int) (rs : List Int) (next : Nat) (held : List (List Int))
    (sums : List Nat) : consume own (r :: rs) next held sums
      = consume own rs (next + 1) (scalesTake next (own.getD next 0 - r) held sums).1
          (scalesTake next (own.getD next 0 - r) held sums).2 := rfl

theorem consume_append (own a b : List Int) (next : Nat) (held : List (List Int)) (sums : List Nat) :
    consume own (a ++ b) next held sums
      = consume own b (consume own a next held sums).1 (consume own a next held sums).2.1
          (consume own a next held sums).2.2 := by
  induction a generalizing next held sums with
  | nil => rfl
  | cons r rs ih => rw [List.cons_append, consume_cons, consume_cons, ih]

/-- Residuals whose differences stand in `ds` from index `i` on take the scales from index `i` to their end. -/
theorem consume_before {own ds : List Int} (rs : List Int) (i : Nat)
    (differ : ∀ j < rs.length, ds.getD (i + j) 0 = own.getD (i + j) 0 - rs.getD j 0) :
    consume own rs i (heldBefore ds i) (sumsBefore ds i)
      = (i + rs.length, heldBefore ds (i + rs.length), sumsBefore ds (i + rs.length)) := by
  induction rs generalizing i with
  | nil => rfl
  | cons r rs ih =>
    have head : own.getD i 0 - r = ds.getD i 0 := (differ 0 (Nat.succ_pos _)).symm
    have shift (j : Nat) : i + 1 + j = i + (j + 1) := by omega
    have tail : ∀ j < rs.length, ds.getD (i + 1 + j) 0 = own.getD (i + 1 + j) 0 - rs.getD j 0 := fun j hj => by
      rw [shift]
      exact differ (j + 1) (Nat.succ_lt_succ hj)
    rw [consume_cons, head, scalesTake_before, ih (i + 1) tail, shift, List.length_cons]

theorem differences_getD {own peer : List Int} {j : Nat} (ho : j < own.length) (hp : j < peer.length) :
    (List.zipWith (· - ·) own peer).getD j 0 = own.getD j 0 - peer.getD j 0 := by
  rw [List.getD_eq_getElem _ _ (by simpa using ⟨ho, hp⟩), List.getD_eq_getElem _ _ ho, List.getD_eq_getElem _ _ hp,
    List.getElem_zipWith]

theorem consume_whole {own peer : List Int} (ho : own.length = 2048) (hp : peer.length = 2048) :
    (consume own peer 0 WorkBuffer.empty.held (List.replicate 8 0)).2.2
      = (List.range 8).map fun k => scaleSum (List.zipWith (· - ·) own peer) k := by
  have run := consume_before (own := own) (ds := List.zipWith (· - ·) own peer) peer 0 fun j hj => by
    rw [Nat.zero_add]
    exact differences_getD (by omega) hj
  rw [heldBefore_zero, sumsBefore_zero, hp, Nat.zero_add] at run
  rw [run, sumsBefore_end]

/-! ### The self values (R111, R121) -/

theorem finishSelf_of_exchange {s : State} {c : Context} {n : Nat} {own : OwnStore} (hfor : s.engine.selfFor = some n)
    (hown : s.engine.ownStore = some own) (hx : s.epochs.exchange = some c) (hc : c.epoch = n) :
    s.finishSelf = (s.withEpochs { s.epochs with
        exchange := some { c with selfValues := some (selfValuesOf own.residuals) } }).withEngine
      { s.engine with selfFor := none, closeHold := false } := by
  simp only [State.finishSelf, hfor, hown, hx, Option.map_some, Context.writeSelf, if_pos hc, State.withEpochs_engine]

/-! ### The statements -/

/-- Settles O23: the running sums by an invariant over the residuals taken, the rest from the closed forms. -/
theorem runningSumsAreTheScaleSums : Obligations.RunningSumsAreTheScaleSums :=
  ⟨fun _ _ => consume_whole, consume_append, fun ds _ hk => scaleSum_eq_sum hk ds,
    fun _ _ hk => roundHalfUp_bounds (termCount_pos hk)⟩

/-- Settles O24: the two ends' differences are each other's negatives, and a squared second difference has no sign. -/
theorem bothEndsFormTheSamePairValues : Obligations.BothEndsFormTheSamePairValues := by
  intro a b _
  have sums : scaleSum (List.zipWith (· - ·) b a) = scaleSum (List.zipWith (· - ·) a b) := by
    funext k
    rw [differences_swap, scaleSum_neg]
  rw [sums]

/-- Settles O22: the context written to is the epoch's own, so the values reach it and nothing else changes. -/
theorem selfValuesAreWrittenTogether : Obligations.SelfValuesAreWrittenTogether := by
  intro s c n rs hrest hfor hown hx hc
  have finish := finishSelf_of_exchange hfor hown hx hc
  exact event_of_settled hrest finish hrest.2

end Sys2Proof.Machine.Scales
end

section
/-! SUPPORT. The arithmetic of the separation: the floored root (R138), the numerator over pair values that are sums
(R135), and the rounding of R136. -/

namespace Sys2Proof.Machine.Separation

open Sys2Proof.Machine.Scales

/-! ### The root (R138) -/

/-- The bits found one after another keep the root between the bits found so far and what the bits still to come can
add. -/
theorem rootFrom_floor {n : Nat} : ∀ (bits : Nat) {r : Nat}, r ^ 2 ≤ n → n < (r + 2 ^ bits) ^ 2 →
    rootFrom n bits r ^ 2 ≤ n ∧ n < (rootFrom n bits r + 1) ^ 2
  | 0, _, low, high => ⟨low, high⟩
  | bits + 1, r, low, high => by
    rw [rootFrom]
    split
    next fits => exact rootFrom_floor bits fits (by rwa [Nat.add_assoc, ← two_mul, ← pow_succ'])
    next exceeds => exact rootFrom_floor bits low (Nat.not_le.1 exceeds)

theorem lt_square_of_rootBits (n : Nat) : n < (0 + 2 ^ (n.log2 / 2 + 1)) ^ 2 := by
  have bits : n.log2 + 1 ≤ (n.log2 / 2 + 1) * 2 := by omega
  calc n < 2 ^ (n.log2 + 1) := Nat.lt_log2_self
    _ ≤ 2 ^ ((n.log2 / 2 + 1) * 2) := Nat.pow_le_pow_right Nat.two_pos bits
    _ = (0 + 2 ^ (n.log2 / 2 + 1)) ^ 2 := by rw [Nat.zero_add, pow_mul]

/-! ### Pair values that are sums (R135) -/

theorem sum_map_add_left (own : Nat) (js : List Nat) :
    (js.map fun q => own + q).sum = js.length * own + js.sum := by
  have split := List.sum_map_add (l := js) (f := fun _ => own) (g := id)
  rwa [List.map_const', List.sum_replicate, smul_eq_mul, List.map_id] at split

/-- Each member stands in a pair with every other one. -/
theorem sum_pairsOf_add_sum : ∀ js : List Nat,
    ((pairsOf js).map fun x => x.1 + x.2).sum + js.sum = js.length * js.sum
  | [] => rfl
  | j :: js => by
    have rest := sum_pairsOf_add_sum js
    simp only [pairsOf, List.map_append, List.map_map, Function.comp_def, List.sum_append, sum_map_add_left,
      List.sum_cons, List.length_cons]
    linarith

/-- The peers' own values cancel, and (N − 1)(N − 2) times the station's own is left. -/
theorem numerator_of_sums (own : Nat) {peers : List Nat} (h : 1 ≤ peers.length) :
    let a := (peers.map fun q => own + q).sum
    numerator (peers.length + 1) a (a + ((pairsOf peers).map fun x => x.1 + x.2).sum)
      = (own * (peers.length * (peers.length - 1)) : Nat) := by
  obtain ⟨k, hk⟩ := Nat.exists_eq_add_of_le h
  have pairs := sum_pairsOf_add_sum peers
  simp only [numerator, sum_map_add_left, hk, Nat.add_sub_cancel, Nat.add_sub_cancel_left] at pairs ⊢
  generalize ((pairsOf peers).map fun x => x.1 + x.2).sum = total at pairs ⊢
  push_cast
  zify at pairs
  linarith

/-! ### The rounding of R136 -/

theorem roundHalfUp_mul (q : Nat) {d : Nat} (h : 0 < d) : roundHalfUp (q * d) d = q := by
  simp [roundHalfUp, h.ne']

theorem separated_of_nonpos {n a p : Nat} (h : numerator n a p ≤ 0) : separated n a p = 0 := if_neg (by omega)

/-- A numerator that is a multiple of (N − 1)(N − 2) is divided exactly. -/
theorem separated_of_multiple {n a p q : Nat} (hn : 3 ≤ n)
    (h : numerator n a p = (q * ((n - 1) * (n - 2)) : Nat)) : separated n a p = q := by
  have den : 0 < (n - 1) * (n - 2) := Nat.mul_pos (by omega) (by omega)
  unfold separated
  split
  next => rw [h, Int.toNat_natCast, roundHalfUp_mul q den]
  next zero =>
    rw [h, Int.natCast_pos, Nat.pos_iff_ne_zero, not_not] at zero
    exact ((Nat.mul_eq_zero.1 zero).resolve_right den.ne').symm

theorem separated_bounds {n a p : Nat} (hn : 3 ≤ n) (h : 0 < numerator n a p) :
    2 * numerator n a p < (2 * separated n a p + 1) * ((n - 1 : Int) * (n - 2))
    ∧ (2 * separated n a p - 1) * ((n - 1 : Int) * (n - 2)) ≤ 2 * numerator n a p := by
  have den : 0 < (n - 1) * (n - 2) := Nat.mul_pos (by omega) (by omega)
  have whole : ((numerator n a p).toNat : Int) = numerator n a p := Int.toNat_of_nonneg h.le
  have one : ((n - 1 : Nat) : Int) = n - 1 := Nat.cast_sub (by omega)
  have two : ((n - 2 : Nat) : Int) = n - 2 := Nat.cast_sub (by omega)
  obtain ⟨below, above⟩ := roundHalfUp_bounds (num := (numerator n a p).toNat) den
  rw [separated, if_pos h]
  zify [whole, one, two] at below above
  constructor <;> linarith

/-! ### The statements -/

/-- Settles O34: the root's bits are enough for the value, and finding them keeps the bounds. -/
theorem rootIsTheFlooredRoot : Obligations.RootIsTheFlooredRoot := fun n =>
  rootFrom_floor _ (Nat.zero_le n) (lt_square_of_rootBits n)

/-- Settles O33: over sums the numerator is a multiple of (N − 1)(N − 2), and the rounding is that of R109. -/
theorem separationFindsTheOwnValueAndRounds : Obligations.SeparationFindsTheOwnValueAndRounds := by
  refine ⟨fun own peers h => ?_, fun n a p hn => ⟨separated_of_nonpos, separated_bounds hn⟩⟩
  have multiple := numerator_of_sums own (peers := peers) (by omega)
  exact ⟨separated_of_multiple (by omega) multiple, by rw [multiple]; exact Int.not_lt.2 (Int.natCast_nonneg _)⟩

end Sys2Proof.Machine.Separation
end

section
/-! SUPPORT. SOLVE_END: how the verdict unit handles a result (R143 to R151), the VERDICT offered (R73, R82), and the
solve that begins then (R35, R128). -/

namespace Sys2Proof.Machine.Solves

open Sys2Proof.Machine.Intake

/-! ### An offered record (R73, R74) -/

theorem slotOffer_state_ne_empty (k : SlotKind) (r : Record) (sl : Slot) (c : LinkCounts) :
    (Slot.offer k r sl c).1.state ≠ .empty := by
  unfold Slot.offer
  split
  next => nofun
  next => nofun
  next hstate => split <;> simp [hstate]

/-- An offer at a link that is not stopped sets its slot and the link counts as the slot's rules have it. -/
theorem offer_eq_slotOffer {s : State} (k : SlotKind) (r : Record) (h : s.link.mode ≠ .stopped) :
    ((s.offer k r).queue.get k, (s.offer k r).link.counts) = Slot.offer k r (s.queue.get k) s.link.counts := by
  have going : ¬ s.linkStopped = true := by simpa [State.linkStopped] using h
  have counts : (s.offer k r).link.counts = (Slot.offer k r (s.queue.get k) s.link.counts).2 := by
    rw [State.offer, if_neg going]
    rcases State.contendIfQuiet_link (s.onSlot k (Slot.offer k r)) with hl | hl <;> rw [hl] <;> rfl
  rw [counts, State.offer_queue, if_neg going, Queue.get_set_same]

theorem offer_otherSlot (s : State) {j k : SlotKind} (r : Record) (h : j ≠ k) :
    (s.offer k r).queue.get j = s.queue.get j := by
  rw [State.offer_queue]
  split
  · rfl
  · exact Queue.get_set_other h

/-! ### The steps of R145 -/

/-- The statistics of a run are all that a result's accumulation reaches (R147, R164). -/
theorem accumulate_eq (v : VerdictUnit) (r : SolveResult) : v.accumulate r = { v with
    separated := (v.accumulate r).separated, bound := (v.accumulate r).bound,
    period := (v.accumulate r).period } := by
  unfold VerdictUnit.accumulate
  split <;> rfl

theorem noteFail_verdicts (s : State) (x : Verdict) : ∃ renewed, (s.noteFail x).verdicts = { s.verdicts with
    events := s.verdicts.events ||| (if x = .fail then 0x02 else 0), renewed := renewed } := by
  by_cases h : x = .fail
  · exact ⟨_, by rw [State.noteFail, if_pos h, if_pos h]; rfl⟩
  · exact ⟨s.verdicts.renewed, by simp [State.noteFail, h]⟩

theorem noteNewest_verdicts (s : State) (x : Verdict) : ∃ renewed, (s.noteNewest x).verdicts = { s.verdicts with
    newest := some x
    events := s.verdicts.events ||| (if s.verdicts.lastReported = some x then 0 else 0x01)
    renewed := renewed } := by
  by_cases h : s.verdicts.lastReported = some x
  · exact ⟨s.verdicts.renewed, by simp [State.noteNewest, h]⟩
  · have raised : s.noteNewest x = (s.withVerdicts { s.verdicts with newest := some x }).raise .verdictChanged :=
      if_neg h
    exact ⟨_, by rw [raised, if_neg h]; rfl⟩

/-- The VERDICT of a result: its counts are those with the result in them. -/
def verdictBody (s : State) (u : Setup) (res : SolveResult) (f : Finding) : VerdictBody :=
  (s.withVerdicts (s.verdicts.accumulate res)).epochVerdict u res f

/-- What the verdict unit holds after a result, up to the marks of a snapshot in flight. -/
def verdictsAfter (s : State) (u : Setup) (res : SolveResult) (f : Finding) (renewed : Events) : VerdictUnit :=
  { s.verdicts with
    newest := some f.verdict
    separated := (s.verdicts.accumulate res).separated
    bound := (s.verdicts.accumulate res).bound
    period := (s.verdicts.accumulate res).period
    firstFailure := (s.verdicts.note res f).firstFailure
    lastY := (s.verdicts.note res f).lastY
    history := ringJoin s.verdicts.history (entryOf s.epochs.runNumber res.epoch (verdictBody s u res f))
    events := s.verdicts.events ||| (if f.verdict = .fail then 0x02 else 0)
      ||| (if s.verdicts.lastReported = some f.verdict then 0 else 0x01)
    renewed := renewed }

/-- The state before the VERDICT is offered: the first four steps of R145. -/
def noted (s : State) (u : Setup) (res : SolveResult) (f : Finding) : State :=
  (((s.withVerdicts ((s.verdicts.accumulate res).note res f)).recordHistory res.epoch
    (verdictBody s u res f)).noteFail f.verdict).noteNewest f.verdict

theorem noted_frame (s : State) (u : Setup) (res : SolveResult) (f : Finding) :
    (noted s u res f).control = s.control ∧ (noted s u res f).epochs = s.epochs
    ∧ (noted s u res f).link = s.link ∧ (noted s u res f).queue = s.queue := by
  simp [noted]

theorem noted_verdicts (s : State) (u : Setup) (res : SolveResult) (f : Finding) :
    ∃ renewed, (noted s u res f).verdicts = verdictsAfter s u res f renewed := by
  obtain ⟨_, failed⟩ := noteFail_verdicts ((s.withVerdicts ((s.verdicts.accumulate res).note res f)).recordHistory
    res.epoch (verdictBody s u res f)) f.verdict
  obtain ⟨renewed, newest⟩ := noteNewest_verdicts _ f.verdict
  refine ⟨renewed, newest.trans ?_⟩
  rw [failed, State.recordHistory, State.withVerdicts_verdicts, State.withVerdicts_verdicts, accumulate_eq]
  rfl

/-- The VERDICT is offered with the header that the state before the result gives it. -/
theorem handleFinding_eq (s : State) (u : Setup) (res : SolveResult) (f : Finding) :
    s.handleFinding u res f
      = (noted s u res f).offer .verdict (s.record res.epoch (.verdict (verdictBody s u res f))) := by
  obtain ⟨control, epochs, -, -⟩ := noted_frame s u res f
  have record : (noted s u res f).record res.epoch (.verdict (verdictBody s u res f))
      = s.record res.epoch (.verdict (verdictBody s u res f)) := by
    simp only [State.record, State.ownDigest, control, epochs]
  rw [← record]
  rfl

theorem handleFinding_verdicts (s : State) (u : Setup) (res : SolveResult) (f : Finding) :
    ∃ renewed, (s.handleFinding u res f).verdicts = verdictsAfter s u res f renewed := by
  obtain ⟨renewed, verdicts⟩ := noted_verdicts s u res f
  refine ⟨renewed, ?_⟩
  simp only [handleFinding_eq, State.offer_frame, verdicts]

theorem handleFinding_offered {s : State} (u : Setup) (res : SolveResult) (f : Finding) (h : s.link.mode ≠ .stopped) :
    ((s.handleFinding u res f).queue.verdict, (s.handleFinding u res f).link.counts)
      = Slot.offer .verdict (s.record res.epoch (.verdict (verdictBody s u res f))) s.queue.verdict s.link.counts := by
  obtain ⟨-, -, link, queue⟩ := noted_frame s u res f
  rw [handleFinding_eq, ← queue, ← link]
  exact offer_eq_slotOffer .verdict _ (link ▸ h)

theorem handleFinding_otherSlot (s : State) (u : Setup) (res : SolveResult) (f : Finding) {k : SlotKind}
    (h : k ≠ .verdict) : (s.handleFinding u res f).queue.get k = s.queue.get k := by
  obtain ⟨-, -, -, queue⟩ := noted_frame s u res f
  rw [handleFinding_eq, offer_otherSlot _ _ h, queue]

/-! ### The finding on a result (R143, R148) -/

theorem firstCause_reason {u : Setup} {qs : Values} {figure : Nat} {w : Standing} {c : Reason × Nat}
    (h : firstCause u qs figure w = some c) : c.1 = .band ∨ c.1 = .figure := by
  unfold firstCause at h
  split at h
  next => obtain rfl := Option.some.inj h; exact .inl rfl
  next =>
    split at h
    next => obtain rfl := Option.some.inj h; exact .inr rfl
    next => exact absurd h nofun

/-- A finding on values never names a cause that the run record keeps. -/
theorem judgeValues_reason (u : Setup) (reading : Reading) (qs : Values) (figure : Nat) :
    (judgeValues u reading qs figure).reason ≠ .wander
    ∧ (judgeValues u reading qs figure).reason ≠ .offFrequency := by
  unfold judgeValues
  split
  next r k hcause =>
    rcases firstCause_reason hcause with rfl | rfl <;> cases reading <;> simp
  next =>
    split
    next r k hcause => rcases firstCause_reason hcause with rfl | rfl <;> simp
    next => simp

/-- The finding on a result without a void reason: its frequency first, then its values. -/
def valuesFinding (u : Setup) (res : SolveResult) : Finding :=
  if offFrequency u res.y = true then { verdict := .fail, reason := .offFrequency, band := 0 }
  else judgeValues u (readingOf res) res.q res.figure

theorem findingOf_of_measuring {u : Setup} {res : SolveResult} (h : res.void = none) :
    findingOf u res = some (valuesFinding u res) := by
  simp only [findingOf, h, valuesFinding]
  split <;> rfl

/-- Of such results the run record keeps the first one off frequency. -/
theorem note_valuesFinding (v : VerdictUnit) (u : Setup) (res : SolveResult) :
    (v.note res (valuesFinding u res)).firstFailure = (if offFrequency u res.y = true ∧ v.firstFailure = none then
      some .offFrequency else v.firstFailure) := by
  by_cases off : offFrequency u res.y = true
  · simp [VerdictUnit.note, valuesFinding, off]
  · obtain ⟨notWander, notOff⟩ := judgeValues_reason u (readingOf res) res.q res.figure
    simp [VerdictUnit.note, valuesFinding, off, notWander, notOff]

/-! ### The end of a solve -/

/-- The solver once a solve has ended: the oldest waiting one runs, unless the engine has a frame in hand; a measured
one reads who is SUSPECT in the roster. -/
def nextSolver (s : State) (roster : List RosterEntry) : Solver :=
  match s.solver.waiting, s.engine.inHand with
  | c :: rest, none =>
    { running := some { context := c, suspects :=
        if c.void = none ∧ s.engine.mode ≠ some .period then
          (roster.filter fun e => e.state = .suspect).map (·.peer)
        else [] }
      waiting := rest }
  | waiting, _ => { running := none, waiting := waiting }

theorem beginSolve_eq_nextSolver {s : State} (h : s.solver.running = none) :
    s.beginSolve = s.withSolver (nextSolver s s.roster) := by
  have idle : s.withSolver { running := none, waiting := s.solver.waiting } = s := by
    rw [← h]
    rfl
  cases hw : s.solver.waiting with
  | nil =>
    simpa [State.beginSolve, nextSolver, h, hw] using hw ▸ idle.symm
  | cons c rest =>
    cases hh : s.engine.inHand with
    | none => simp only [beginSolve_of_waiting h hh hw, nextSolver, hw, hh, exchanges_iff, State.suspects]
    | some f => simpa [State.beginSolve, nextSolver, h, hw, hh] using hw ▸ idle.symm

theorem nextSolver_congr {s t : State} (hw : t.solver.waiting = s.solver.waiting) (he : t.engine = s.engine)
    (roster : List RosterEntry) : nextSolver t roster = nextSolver s roster := by
  unfold nextSolver
  rw [hw, he]

theorem reportSets_frame (s : State) (r : RunningSolve) :
    (s.reportSets r).hold = s.hold ∧ (s.reportSets r).control = s.control ∧ (s.reportSets r).capture = s.capture
    ∧ (s.reportSets r).epochs = s.epochs ∧ (s.reportSets r).engine = s.engine ∧ (s.reportSets r).solver = s.solver
    ∧ (s.reportSets r).verdicts = s.verdicts ∧ (s.reportSets r).link = s.link ∧ (s.reportSets r).queue = s.queue
    ∧ (s.reportSets r).pending = s.pending := by
  unfold State.reportSets
  split <;> simp

/-- What the verdict unit and the roster make of the running solve's result. -/
def reported (s : State) (r : RunningSolve) : State := (s.handleResult (s.solveResult r)).reportSets r

theorem reported_frame (s : State) (r : RunningSolve) :
    (reported s r).hold = s.hold ∧ (reported s r).control = s.control ∧ (reported s r).capture = s.capture
    ∧ (reported s r).epochs = s.epochs ∧ (reported s r).engine = s.engine ∧ (reported s r).solver = s.solver
    ∧ (reported s r).pending = s.pending := by
  simp [reported, reportSets_frame]

/-- The sets of a measured solve reach the roster, and no other's do. -/
theorem reported_roster (s : State) (r : RunningSolve) :
    (s.exchanges r.context = true → (reported s r).roster = (s.rosterSolved
      (chargedSet s.control.number r.context r.suspects) (agreedSet s.control.number r.context)).roster)
    ∧ (s.exchanges r.context = false → (reported s r).roster = s.roster) := by
  have same : (s.handleResult (s.solveResult r)).exchanges r.context = s.exchanges r.context := by
    simp [State.exchanges, State.inPeriod]
  refine ⟨fun measured => ?_, fun unmeasured => ?_⟩
  · simp [reported, State.reportSets, same, measured, State.rosterSolved]
  · simp [reported, State.reportSets, same, unmeasured]

/-- A solve's end: the result is handled and reported, and the solver goes on. -/
theorem solveEnd_eq {s : State} {r : RunningSolve} (hrest : s.atRest) (hrun : s.solver.running = some r) :
    exec .solveEnd s = .next ((reported s r).withSolver (nextSolver s (reported s r).roster)) := by
  obtain ⟨-, control, -, -, engine, solver, -⟩ := reported_frame s r
  have freed : s.endSolve
      = ((reported s r).withSolver { (reported s r).solver with running := none }).beginSolve := by
    simp only [State.endSolve, hrun, reported]
  have next := nextSolver_congr (s := s)
    (t := (reported s r).withSolver { (reported s r).solver with running := none }) (by simp [solver]) engine
  have ended : s.endSolve = (reported s r).withSolver (nextSolver s (reported s r).roster) := by
    rw [freed, beginSolve_eq_nextSolver rfl, next]
    rfl
  exact event_of_settled hrest ended (control ▸ hrest.2)

/-- What SOLVE_END of a solve leaves whose result `res` has the finding `f`: the five steps of R145, the roster's part,
and the solver's. -/
structure SolveEnded (s : State) (r : RunningSolve) (u : Setup) (res : SolveResult) (f : Finding) (t : State) :
    Prop where
  outcome : exec .solveEnd s = .next t
  solver : t.solver = nextSolver s t.roster
  verdicts : ∃ renewed, t.verdicts = verdictsAfter s u res f renewed
  offered : s.link.mode ≠ .stopped → (t.queue.verdict, t.link.counts) = Slot.offer .verdict
    (s.record res.epoch (.verdict (verdictBody s u res f))) s.queue.verdict s.link.counts
  otherSlots : t.queue.presence = s.queue.presence ∧ t.queue.summary = s.queue.summary
    ∧ t.queue.phase = s.queue.phase ∧ t.queue.history = s.queue.history
  measured : s.exchanges r.context = true → t.roster = (s.rosterSolved
    (chargedSet s.control.number r.context r.suspects) (agreedSet s.control.number r.context)).roster
  unmeasured : s.exchanges r.context = false → t.roster = s.roster
  kept : t.control = s.control ∧ t.capture = s.capture ∧ t.epochs = s.epochs ∧ t.engine = s.engine
    ∧ t.pending = s.pending ∧ t.hold = s.hold

theorem solveEnd_of_finding {s : State} {r : RunningSolve} {h : HeldSetup} {res : SolveResult} {f : Finding}
    (hrest : s.atRest) (hrun : s.solver.running = some r) (hheld : s.control.held = some h)
    (hres : s.solveResult r = res) (hf : findingOf h.setup res = some f) : ∃ t, SolveEnded s r h.setup res f t := by
  obtain ⟨hold, control, capture, epochs, engine, -, pending⟩ := reported_frame s r
  have handled : s.handleResult (s.solveResult r) = s.handleFinding h.setup res f := by
    simp only [State.handleResult, hheld, hres, hf]
  obtain ⟨-, -, -, -, -, -, verdicts, link, queue, -⟩ := reportSets_frame (s.handleResult (s.solveResult r)) r
  rw [← reported, handled] at verdicts link queue
  have slot := fun {k : SlotKind} => handleFinding_otherSlot s h.setup res f (k := k)
  rw [← queue] at slot
  refine ⟨_, solveEnd_eq hrest hrun, rfl, ?_, fun going => ?_, ?_, (reported_roster s r).1, (reported_roster s r).2,
    control, capture, epochs, engine, pending, hold⟩
  · rw [State.withSolver_verdicts, verdicts]
    exact handleFinding_verdicts s h.setup res f
  · rw [State.withSolver_queue, State.withSolver_link, queue, link]
    exact handleFinding_offered h.setup res f going
  · exact ⟨slot (k := .presence) nofun, slot (k := .summary) nofun, slot (k := .phase) nofun,
      slot (k := .history) nofun⟩

section
variable {s t : State} {r : RunningSolve} {u : Setup} {res : SolveResult} {f : Finding}

/-- A solve that is not measured leaves the roster, which the next solve reads. -/
theorem SolveEnded.solver_of_unmeasured (e : SolveEnded s r u res f t) (hx : s.exchanges r.context = false) :
    t.solver = nextSolver s s.roster := e.unmeasured hx ▸ e.solver

/-- Beside verdict unit and solver it reaches the VERDICT slot alone. -/
theorem SolveEnded.reach_of_unmeasured (e : SolveEnded s r u res f t) (hx : s.exchanges r.context = false) :
    t.queue.presence = s.queue.presence ∧ t.queue.summary = s.queue.summary ∧ t.queue.phase = s.queue.phase
    ∧ t.queue.history = s.queue.history ∧ t.roster = s.roster ∧ t.control = s.control ∧ t.capture = s.capture
    ∧ t.epochs = s.epochs ∧ t.engine = s.engine ∧ t.pending = s.pending ∧ t.hold = s.hold
    ∧ (s.link.mode ≠ .stopped → (t.queue.verdict, t.link.counts) = Slot.offer .verdict
      (s.record res.epoch (.verdict (verdictBody s u res f))) s.queue.verdict s.link.counts) := by
  obtain ⟨presence, summary, phase, history⟩ := e.otherSlots
  obtain ⟨control, capture, epochs, engine, pending, hold⟩ := e.kept
  exact ⟨presence, summary, phase, history, e.unmeasured hx, control, capture, epochs, engine, pending, hold,
    e.offered⟩

end

/-! ### The three courses (R127) -/

theorem solveResult_of_void {s : State} {r : RunningSolve} (h : r.context.void ≠ none) :
    s.solveResult r = voidResult r.context := by
  simp [State.solveResult, resultOf, courseOf, Option.isSome_iff_ne_none.2 h]

theorem solveResult_of_period {s : State} {r : RunningSolve} {v : PeriodValues} (hv : r.context.void = none)
    (hm : s.engine.mode = some .period) (hp : r.context.period = some v) :
    s.solveResult r = periodResult r.context v := by
  simp [State.solveResult, resultOf, courseOf, State.inPeriod, hv, hm, hp]

theorem solveResult_of_measured {s : State} {r : RunningSolve} {h : HeldSetup} (hheld : s.control.held = some h)
    (hv : r.context.void = none) (hm : s.engine.mode = some .hat) :
    s.solveResult r = measuredResult s.control.number h.setup.figureMask r.context r.suspects := by
  simp [State.solveResult, resultOf, courseOf, State.inPeriod, hheld, hv, hm]

/-- A context voided otherwise than NOT_MEASURING keeps its y in the result (R33). -/
theorem voidResult_eq {c : Context} (h : c.void ≠ some .notMeasuring) : voidResult c =
    { epoch := c.epoch, void := c.void, y := c.y, grade := .none, n := 0, q := [0, 0, 0, 0, 0, 0, 0, 0], figure := 0,
      bands := [0, 0, 0, 0, 0, 0, 0, 0], j := 0, belowFloor := 0, period := none } := by
  rw [voidResult, if_neg h]
  rfl

/-- A solve over a context voided NOT_MEASURING changes the solver alone (R143 step 1). -/
theorem solveEnd_of_notMeasuring {s : State} {r : RunningSolve} {h : HeldSetup} (hrest : s.atRest)
    (hrun : s.solver.running = some r) (hheld : s.control.held = some h)
    (hv : r.context.void = some .notMeasuring) :
    exec .solveEnd s = .next (s.withSolver (nextSolver s s.roster)) := by
  have noFinding : findingOf h.setup (s.solveResult r) = none := by
    rw [solveResult_of_void (by simp [hv])]
    simp only [findingOf, voidResult, hv]
  have unreported : reported s r = s := by
    simp [reported, State.handleResult, hheld, noFinding, State.reportSets, State.exchanges, hv]
  rw [solveEnd_eq hrest hrun, unreported]

/-- Of the two other void reasons only WANDER is a first failure (R148). -/
theorem note_of_void (v : VerdictUnit) (res : SolveResult) {verdict : Verdict} {reason : Reason}
    (h : verdict = .noResult ∧ reason = .disturbed ∨ verdict = .fail ∧ reason = .wander) :
    (v.note res { verdict := verdict, reason := reason, band := 0 }).firstFailure
      = (if verdict = .fail ∧ v.firstFailure = none then some .wander else v.firstFailure) := by
  rcases h with ⟨rfl, rfl⟩ | ⟨rfl, rfl⟩
  · simp [VerdictUnit.note]
  · simp [VerdictUnit.note]

theorem gradeOf_ne_none (n : Nat) : gradeOf n ≠ .none := by
  unfold gradeOf
  split
  · nofun
  · split <;> nofun

/-- A graded result goes to the set its grade names (R147). -/
theorem accumulate_of_graded (v : VerdictUnit) {res : SolveResult} (hp : res.period = none) (hg : res.grade ≠ .none) :
    (v.accumulate res).separated = (if res.grade = .separated then v.separated.add res.q res.n false else v.separated)
    ∧ (v.accumulate res).bound = (if res.grade = .separated then v.bound
        else v.bound.add res.q res.n (decide (res.grade = .referenceBound)))
    ∧ (v.accumulate res).period = v.period := by
  cases grade : res.grade with
  | none => exact absurd grade hg
  | separated | pairBound | referenceBound => simp [VerdictUnit.accumulate, hp, grade]

theorem readingOf_measuredResult (own : Nat) (mask : BandMask) (c : Context) (suspects : List Nat) :
    let res := measuredResult own mask c suspects
    readingOf res = (if res.grade = .separated then .separated else .bound) :=
  if_congr (by simp [measuredResult]) rfl rfl

/-! ### The run's statistics (R147, R164) -/

theorem accSet_add_of_full {a : AccSet} (h : 65535 ≤ a.count) (qs : Values) (n : Nat) (reference : Bool) :
    a.add qs n reference = a := if_pos h

theorem accSet_add_of_room {a : AccSet} (h : a.count < 65535) (qs : Values) (n : Nat) (reference : Bool) :
    a.add qs n reference =
      { count := a.count + 1
        sums := (List.range 8).map fun k => a.sums.getD k 0 + valueAt qs k
        smallestN := some (match a.smallestN with | some m => min m n | none => n)
        referenceMark := a.referenceMark || reference } := if_neg (Nat.not_le.2 h)

theorem periodRun_add_of_full {p : PeriodRun} (h : 65535 ≤ p.count) (v : PeriodValues) : p.add v = p := if_pos h

theorem periodRun_add_of_room {p : PeriodRun} (h : p.count < 65535) (v : PeriodValues) : p.add v =
    { count := p.count + 1, varianceSum := p.varianceSum + v.variance
      largestPeak := some (match p.largestPeak with | some m => max m v.peak | none => v.peak) } :=
  if_neg (Nat.not_le.2 h)

/-! ### The statements -/

/-- Settles O30: a void reason or the period values give the finding; the rest is the end of any solve with one. -/
theorem voidAndPeriodSolvesGiveTheirVerdicts : Obligations.VoidAndPeriodSolvesGiveTheirVerdicts := by
  refine ⟨fun s r h hrest hrun hheld => ⟨solveEnd_of_notMeasuring hrest hrun hheld, ?_, ?_⟩, fun p v =>
    ⟨fun hfull => periodRun_add_of_full hfull v, fun hroom => ?_⟩⟩
  · intro verdict reason cause
    have void : r.context.void ≠ none ∧ r.context.void ≠ some .notMeasuring := by
      rcases cause with ⟨hv, -⟩ | ⟨hv, -⟩ <;> simp [hv]
    have unmeasured : s.exchanges r.context = false := by simp [State.exchanges, void.1]
    have finding : findingOf h.setup (voidResult r.context)
        = some { verdict := verdict, reason := reason, band := 0 } := by
      rcases cause with ⟨hv, rfl, rfl⟩ | ⟨hv, rfl, rfl⟩ <;> simp only [findingOf, voidResult, hv]
    obtain ⟨t, ended⟩ := solveEnd_of_finding hrest hrun hheld (solveResult_of_void void.1) finding
    rw [voidResult_eq void.2] at ended
    obtain ⟨renewed, verdicts⟩ := ended.verdicts
    refine ⟨t, ended.outcome, ended.solver_of_unmeasured unmeasured, ?_⟩
    rw [verdicts]
    have failure := note_of_void s.verdicts (voidResult r.context) (cause.imp And.right And.right)
    exact ⟨rfl, rfl, rfl, rfl, rfl, rfl, failure, rfl, rfl, rfl, rfl, ended.reach_of_unmeasured unmeasured⟩
  · intro v hv hm hp f
    have unmeasured : s.exchanges r.context = false := by simp [State.exchanges, State.inPeriod, hm]
    obtain ⟨t, ended⟩ := solveEnd_of_finding hrest hrun hheld (solveResult_of_period hv hm hp)
      (findingOf_of_measuring rfl)
    obtain ⟨renewed, verdicts⟩ := ended.verdicts
    refine ⟨t, ended.outcome, ended.solver_of_unmeasured unmeasured, ?_⟩
    rw [verdicts]
    exact ⟨rfl, rfl, rfl, rfl, note_valuesFinding _ _ (periodResult r.context v), rfl, rfl, rfl, rfl, rfl, rfl,
      ended.reach_of_unmeasured unmeasured⟩
  · rw [periodRun_add_of_room hroom]
    cases p.largestPeak with
    | none => rfl
    | some m => simp only [max_def_lt]

/-- Settles O31: the finding on the solve's values, its grade's set, and the end of any solve with a finding. -/
theorem measuredSolveReachesVerdictAndRoster : Obligations.MeasuredSolveReachesVerdictAndRoster := by
  refine ⟨?_, fun a qs n reference => ⟨fun hfull => accSet_add_of_full hfull qs n reference, fun hroom => ?_⟩⟩
  · intro s r h f hrest hrun hheld hv hm next offer res hf
    have values : valuesFinding h.setup res = f := by
      rw [valuesFinding, readingOf_measuredResult]
      exact hf.symm
    have finding : findingOf h.setup res = some f := (findingOf_of_measuring rfl).trans (congrArg some values)
    obtain ⟨t, ended⟩ := solveEnd_of_finding hrest hrun hheld (solveResult_of_measured hheld hv hm) finding
    obtain ⟨renewed, verdicts⟩ := ended.verdicts
    obtain ⟨separated, bound, period⟩ := accumulate_of_graded s.verdicts (res := res) rfl (gradeOf_ne_none _)
    have solver : t.solver = next t.roster := by
      rw [ended.solver, nextSolver]
      cases hw : s.solver.waiting with
      | nil => simp [next, hw]
      | cons c rest => cases hh : s.engine.inHand with
        | none => simp [next, hw, hh, hm]
        | some f => simp [next, hw, hh]
    have failure : (s.verdicts.note res f).firstFailure = _ := values ▸ note_valuesFinding s.verdicts h.setup res
    refine ⟨t, ended.outcome, solver, ?_⟩
    rw [verdicts]
    refine ⟨rfl, rfl, rfl, separated, bound, rfl, ended.measured (exchanges_iff.2 ⟨hv, by simp [hm]⟩),
      fun going => ⟨?_, ended.offered going, ended.otherSlots⟩, rfl, rfl, period, failure, rfl, ended.kept⟩
    have slot : t.queue.verdict = _ := congrArg Prod.fst (ended.offered going)
    rw [slot]
    exact slotOffer_state_ne_empty _ _ _ _
  · rw [accSet_add_of_room hroom]
    refine ⟨rfl, by simp, fun k hk => Scales.getD_map_range hk, ?_, by simp⟩
    cases a.smallestN with
    | none => rfl
    | some m => simp only [min_def_lt]

end Sys2Proof.Machine.Solves
end

section
/-! SUPPORT. A value against its limit (R142), the finding on a set of values (R143, R144), the history ring (R151), and
the verdict and the reported set at a run's close (R149, R150, R165). -/

namespace Sys2Proof.Machine.Judging

/-! ### One value against one limit (R142) -/

theorem standing_exceeded_iff {value limit : Nat} :
    standing value limit = .exceeded ↔ limit ≠ 0 ∧ limit ^ 2 < value := by
  unfold standing
  split_ifs <;> simp_all

theorem standing_marginal_iff {value limit : Nat} :
    standing value limit = .marginal ↔ limit ≠ 0 ∧ ¬ limit ^ 2 < value ∧ 49 * limit ^ 2 < 64 * value := by
  unfold standing
  split_ifs <;> simp_all

theorem standing_within_iff {value limit : Nat} :
    standing value limit = .within ↔ limit = 0 ∨ ¬ limit ^ 2 < value ∧ ¬ 49 * limit ^ 2 < 64 * value := by
  unfold standing
  split_ifs <;> simp_all

theorem standing_zero (limit : Nat) : standing 0 limit = .within :=
  standing_within_iff.2 (.inr ⟨Nat.not_lt_zero _, Nat.not_lt_zero _⟩)

/-! ### The cause of an outcome (R143, R144) -/

/-- An outcome occurs in a band or in the figure. -/
def Occurs (u : Setup) (qs : Values) (figure : Nat) (w : Standing) : Prop :=
  (∃ k < 8, standing (valueAt qs k) (valueAt u.limits k) = w) ∨ standing figure u.figureLimit = w

section
variable {u : Setup} {qs : Values} {figure : Nat} {w : Standing}

/-- The lowest band with the outcome is its cause. -/
theorem firstCause_of_band {k : Nat} (hk : k < 8) (hw : standing (valueAt qs k) (valueAt u.limits k) = w)
    (lowest : ∀ j < k, standing (valueAt qs j) (valueAt u.limits j) ≠ w) :
    firstCause u qs figure w = some (.band, k) := by
  have found : (List.range 8).find? (fun k => standing (valueAt qs k) (valueAt u.limits k) = w) = some k := by
    rw [List.find?_range_eq_some]
    simpa [hw, hk] using lowest
  rw [firstCause, found]

/-- Without a band that has the outcome, the figure decides. -/
theorem firstCause_of_noBand (noBand : ∀ k < 8, standing (valueAt qs k) (valueAt u.limits k) ≠ w) :
    firstCause u qs figure w = if standing figure u.figureLimit = w then some (.figure, 0) else none := by
  have notFound : (List.range 8).find? (fun k => standing (valueAt qs k) (valueAt u.limits k) = w) = none := by
    rw [List.find?_range_eq_none]
    simpa using noBand
  rw [firstCause, notFound]

theorem firstCause_eq_none_iff : firstCause u qs figure w = none ↔
    (∀ k < 8, standing (valueAt qs k) (valueAt u.limits k) ≠ w) ∧ standing figure u.figureLimit ≠ w := by
  by_cases band : ∃ k < 8, standing (valueAt qs k) (valueAt u.limits k) = w
  · obtain ⟨hlt, hw⟩ := Nat.find_spec band
    have lowest (j : Nat) (hj : j < Nat.find band) : standing (valueAt qs j) (valueAt u.limits j) ≠ w :=
      fun h => Nat.find_min band hj ⟨hj.trans hlt, h⟩
    rw [firstCause_of_band hlt hw lowest]
    exact ⟨nofun, fun h => absurd hw (h.1 _ hlt)⟩
  · have noBand : ∀ k < 8, standing (valueAt qs k) (valueAt u.limits k) ≠ w := by simpa using band
    rw [firstCause_of_noBand noBand]
    simpa using fun _ => noBand

theorem not_occurs_iff : ¬ Occurs u qs figure w ↔ firstCause u qs figure w = none := by
  simp [Occurs, firstCause_eq_none_iff]

theorem occurs_iff : Occurs u qs figure w ↔ ∃ c, firstCause u qs figure w = some c := by
  rw [← not_iff_not, not_occurs_iff, Option.eq_none_iff_forall_ne_some, not_exists]

end

/-! ### The finding on a set of values (R143, R144) -/

section
variable {u : Setup} {reading : Reading} {qs : Values} {figure : Nat} {c : Reason × Nat}

theorem judgeValues_of_exceeded (h : firstCause u qs figure .exceeded = some c) :
    judgeValues u reading qs figure =
      Finding.mk (if reading = .separated then .fail else .unresolved) c.1 c.2 := by
  rw [judgeValues, h]
  cases reading <;> rfl

theorem judgeValues_of_marginal (he : firstCause u qs figure .exceeded = none)
    (hm : firstCause u qs figure .marginal = some c) :
    judgeValues u reading qs figure = { verdict := .marginal, reason := c.1, band := c.2 } := by
  rw [judgeValues, he, hm]

theorem judgeValues_of_within (he : firstCause u qs figure .exceeded = none)
    (hm : firstCause u qs figure .marginal = none) :
    judgeValues u reading qs figure = { verdict := .pass, reason := .none, band := 0 } := by
  rw [judgeValues, he, hm]

/-- The cause named is that of the deciding outcome. -/
theorem judgeValues_cause {w : Standing} (deciding : w = .exceeded ∨ w = .marginal ∧ ¬ Occurs u qs figure .exceeded)
    (hc : firstCause u qs figure w = some c) :
    (judgeValues u reading qs figure).reason = c.1 ∧ (judgeValues u reading qs figure).band = c.2 := by
  rcases deciding with rfl | ⟨rfl, he⟩
  · rw [judgeValues_of_exceeded hc]
    exact ⟨rfl, rfl⟩
  · rw [judgeValues_of_marginal (not_occurs_iff.1 he) hc]
    exact ⟨rfl, rfl⟩

end

theorem offFrequency_iff {u : Setup} {y : Option Int} : offFrequency u y = true ↔
    u.tolerance ≠ 0 ∧ ∃ v, y = some v ∧ (v < -(u.tolerance : Int) ∨ (u.tolerance : Int) < v) := by
  cases y with
  | none => simp [offFrequency]
  | some v =>
    have beyond : u.tolerance < v.natAbs ↔ v < -(u.tolerance : Int) ∨ (u.tolerance : Int) < v := by omega
    simp [offFrequency, beyond]

/-! ### The history ring (R151) -/

/-- Of the entries of another identity the newest seven stay. -/
theorem ringJoin_eq_drop {ring : List HistoryEntry} {e : HistoryEntry} {others : List HistoryEntry}
    (ho : (ring.filter fun x => ¬(x.run = e.run ∧ x.epoch = e.epoch)) = others) (h8 : others.length ≤ 8) :
    ringJoin ring e = others.drop (others.length - 7) ++ [e] := by
  have same : (ring.filter fun x => !x.sameIdentity e) = others := by
    rw [← ho]
    simp [HistoryEntry.sameIdentity]
  have cut : (if Config.ringPlaces ≤ others.length then others.tail else others)
      = others.drop (others.length - 7) := by
    unfold Config.ringPlaces
    split
    next full => rw [show others.length - 7 = 1 by omega, List.drop_one]
    next room => rw [show others.length - 7 = 0 by omega, List.drop_zero]
  rw [ringJoin, same, cut]

/-! ### The run close (R149, R150, R165) -/

section
variable {v : VerdictUnit} {u : Setup} {inPeriod : Bool}

theorem reportedSet_separated (h : u.minEpochs ≤ v.separated.count) :
    v.reportedSet u false = some (v.separated.reported .separated .separated u.figureMask) := by
  simp [VerdictUnit.reportedSet, h]

theorem reportedSet_bound (hs : v.separated.count < u.minEpochs) (hb : u.minEpochs ≤ v.bound.count) :
    v.reportedSet u false = some (v.bound.reported .bound
      (if v.bound.referenceMark = true then .referenceBound else .pairBound) u.figureMask) := by
  simp [VerdictUnit.reportedSet, Nat.not_le.2 hs, hb]

theorem reportedSet_neither (hs : v.separated.count < u.minEpochs) (hb : v.bound.count < u.minEpochs) :
    v.reportedSet u false = none := by
  simp [VerdictUnit.reportedSet, Nat.not_le.2 hs, Nat.not_le.2 hb]

theorem reportedSet_period (h : u.minEpochs ≤ v.period.count) : v.reportedSet u true = some v.period.reported := by
  simp [VerdictUnit.reportedSet, h]

theorem reportedSet_noPeriod (h : v.period.count < u.minEpochs) : v.reportedSet u true = none := by
  simp [VerdictUnit.reportedSet, Nat.not_le.2 h]

theorem runClose_of_failure {r : Reason} (h : v.firstFailure = some r) :
    v.runClose u inPeriod = { verdict := .fail, reason := r, band := 0 } := by
  rw [VerdictUnit.runClose, h]

theorem runClose_of_reported {p : Reported} (hf : v.firstFailure = none) (hp : v.reportedSet u inPeriod = some p) :
    v.runClose u inPeriod = judgeValues u p.reading p.q p.figure := by
  rw [VerdictUnit.runClose, hf, hp]

theorem runClose_of_unreported (hf : v.firstFailure = none) (hp : v.reportedSet u inPeriod = none) :
    v.runClose u inPeriod = Finding.mk .noResult
      (if v.dutAtEnd = some .absent ∨ v.dutAtEnd = some .wrongFrequency then .dutLost else .tooFewEpochs) 0 := by
  rw [VerdictUnit.runClose, hf, hp]
  split_ifs <;> rfl

end

/-! ### The statements -/

/-- Settles O36: what `judgeValues` finds is decided by the first causes of the two outcomes. -/
theorem outcomesGiveTheVerdict : Obligations.OutcomesGiveTheVerdict := by
  refine ⟨fun u qs figure reading => ⟨fun he => ?_, fun he hm => ?_, fun he hm => ?_, fun w deciding =>
    ⟨fun k hk hw lowest => ?_, fun noBand hw => ?_⟩⟩, fun u y => offFrequency_iff⟩
  · obtain ⟨c, hc⟩ := occurs_iff.1 he
    rw [judgeValues_of_exceeded hc]
    cases reading <;> rfl
  · obtain ⟨c, hc⟩ := occurs_iff.1 hm
    rw [judgeValues_of_marginal (not_occurs_iff.1 he) hc]
  · exact judgeValues_of_within (not_occurs_iff.1 he) (not_occurs_iff.1 hm)
  · exact judgeValues_cause deciding (firstCause_of_band hk hw lowest)
  · exact judgeValues_cause deciding ((firstCause_of_noBand noBand).trans (if_pos hw))

/-- Settles O37: at most eight others remain, so at most the oldest one goes. -/
theorem historyRingKeepsTheNewestEight : Obligations.HistoryRingKeepsTheNewestEight := by
  intro ring e h8 others
  have joined := ringJoin_eq_drop (ring := ring) (e := e) (others := others) rfl
    ((List.length_filter_le _ _).trans h8)
  refine ⟨joined, ?_⟩
  rw [joined, List.length_append, List.length_drop, List.length_singleton]
  omega

/-- Settles O35, by what each outcome means and by when an outcome has no cause. -/
theorem valuesAreJudgedAgainstSquaredLimits : Obligations.ValuesAreJudgedAgainstSquaredLimits := fun _ _ _ =>
  ⟨fun _ limit => ⟨standing_exceeded_iff, standing_marginal_iff, standing_within_iff, standing_zero limit⟩,
    fun _ => firstCause_eq_none_iff⟩

/-- Settles O38: the reported set follows from the counts, and the verdict from the first failure and that set. -/
theorem runCloseJudgesTheAverages : Obligations.RunCloseJudgesTheAverages := by
  intro v u average set tooLittle
  refine ⟨fun r inPeriod => runClose_of_failure, fun hf hs => ?_, fun hf hs hb => ?_, fun hf hs hb => ?_,
    reportedSet_separated, reportedSet_bound, reportedSet_neither, fun hp => ⟨fun hf => ?_, reportedSet_period hp⟩,
    fun hp => ⟨fun hf => ?_, reportedSet_noPeriod hp⟩⟩
  · exact runClose_of_reported hf (reportedSet_separated hs)
  · exact runClose_of_reported hf (reportedSet_bound hs hb)
  · exact runClose_of_unreported hf (reportedSet_neither hs hb)
  · exact runClose_of_reported hf (reportedSet_period hp)
  · exact runClose_of_unreported hf (reportedSet_noPeriod hp)

end Sys2Proof.Machine.Judging
end

section
/-! SUPPORT. The event status as a set of events: what the operations on its bits do to each event, the attention output
(R157), and the causes and completions that reach it (R146, R154, R155). -/

namespace Sys2Proof.Machine.Attention

/-! ### The events as bits (section 5.6) -/

/-- The number of an event's bit. -/
def index : Event → Nat
  | .verdictChanged => 0 | .failSeen => 1 | .dutChanged => 2 | .slipWrapped => 3
  | .linkFault => 4 | .numberConflict => 5 | .runMissed => 6

theorem index_lt (e : Event) : index e < 7 := by
  cases e <;> decide

theorem exists_index_eq : ∀ {i : Nat}, i < 7 → ∃ e, index e = i
  | 0, _ => ⟨.verdictChanged, rfl⟩
  | 1, _ => ⟨.failSeen, rfl⟩
  | 2, _ => ⟨.dutChanged, rfl⟩
  | 3, _ => ⟨.slipWrapped, rfl⟩
  | 4, _ => ⟨.linkFault, rfl⟩
  | 5, _ => ⟨.numberConflict, rfl⟩
  | 6, _ => ⟨.runMissed, rfl⟩

theorem bit_eq_twoPow (e : Event) : e.bit = BitVec.twoPow 7 (index e) := by
  cases e <;> rfl

theorem isIn_eq_getLsbD (e : Event) (es : Events) : e.isIn es = es.getLsbD (index e) := by
  have nonzero : BitVec.twoPow 7 (index e) ≠ 0 := by
    cases e <;> decide
  rw [Event.isIn, bit_eq_twoPow, BitVec.and_twoPow]
  cases es.getLsbD (index e) with
  | false => rfl
  | true => exact decide_eq_true nonzero

@[simp] theorem isIn_or (e : Event) (a b : Events) : e.isIn (a ||| b) = (e.isIn a || e.isIn b) := by
  simp only [isIn_eq_getLsbD, BitVec.getLsbD_or]

@[simp] theorem isIn_and (e : Event) (a b : Events) : e.isIn (a &&& b) = (e.isIn a && e.isIn b) := by
  simp only [isIn_eq_getLsbD, BitVec.getLsbD_and]

@[simp] theorem isIn_not (e : Event) (a : Events) : e.isIn (~~~a) = !e.isIn a := by
  simp [isIn_eq_getLsbD, index_lt]

@[simp] theorem isIn_bit (x e : Event) : x.isIn e.bit = decide (x = e) := by
  cases x <;> cases e <;> rfl

theorem ne_zero_iff_exists_isIn {es : Events} : es ≠ 0 ↔ ∃ e : Event, e.isIn es = true := by
  rw [← not_iff_not, not_ne_iff, not_exists]
  constructor
  · rintro rfl e
    simp [isIn_eq_getLsbD]
  · intro noEvent
    refine BitVec.eq_of_getLsbD_eq fun i hi => ?_
    obtain ⟨e, rfl⟩ := exists_index_eq hi
    simpa [isIn_eq_getLsbD] using noEvent e

/-! ### Completions and causes (R146, R154, R155) -/

theorem complete_events_eq {v : VerdictUnit} {sent : Events} {reported last : Option Verdict} (hs : v.snapshot = some sent)
    (hl : (if reported.isSome then reported else v.lastReported) = last) :
    (v.complete reported).events = if v.newest ≠ last then
      (v.events &&& ~~~(sent &&& ~~~v.renewed)) ||| Event.verdictChanged.bit
    else v.events &&& ~~~(sent &&& ~~~v.renewed) := by
  subst hl
  simp only [VerdictUnit.complete, hs, Option.getD_some]

/-- The events after a completion: the snapshot's unrenewed ones are gone, and VERDICT_CHANGED stands while the newest
verdict differs from the last reported one. -/
theorem isIn_complete_events {v : VerdictUnit} {sent : Events} {reported last : Option Verdict}
    (hs : v.snapshot = some sent) (hl : (if reported.isSome then reported else v.lastReported) = last) (e : Event) :
    e.isIn (v.complete reported).events = true ↔
      (e.isIn v.events = true ∧ (e.isIn sent = false ∨ e.isIn v.renewed = true))
      ∨ (e = .verdictChanged ∧ v.newest ≠ last) := by
  rw [complete_events_eq hs hl]
  by_cases changed : v.newest = last <;> simp [changed]

theorem isIn_raise_events (v : VerdictUnit) (e x : Event) :
    x.isIn (v.raise e).events = true ↔ x = e ∨ x.isIn v.events = true := by
  simp [VerdictUnit.raise, or_comm]

theorem raise_renewed_of_idle {v : VerdictUnit} {e : Event} (h : v.snapshot = none) :
    (v.raise e).renewed = v.renewed := by
  simp [VerdictUnit.raise, h]

theorem isIn_raise_renewed {v : VerdictUnit} (h : v.snapshot ≠ none) (e x : Event) :
    x.isIn (v.raise e).renewed = true ↔ x = e ∨ x.isIn v.renewed = true := by
  have inFlight : v.snapshot.isSome = true := Option.isSome_iff_ne_none.2 h
  simp [VerdictUnit.raise, inFlight, or_comm]

/-! ### The statements -/

/-- Settles O40, event by event: a completion and a cause are operations on sets of events. -/
theorem completionClearsTheUnrenewedSnapshot : Obligations.CompletionClearsTheUnrenewedSnapshot :=
  ⟨fun _ _ _ hs => ⟨rfl, rfl, rfl, rfl, isIn_complete_events hs rfl⟩,
    fun s e => ⟨rfl, rfl, isIn_raise_events s.verdicts e, raise_renewed_of_idle, fun h => isIn_raise_renewed h e⟩⟩

/-- Settles O39: the overlap is not empty exactly where an event is in it. -/
theorem attnIsTheOverlapOfEventsAndMask : Obligations.AttnIsTheOverlapOfEventsAndMask := fun s =>
  calc s.attn = true
    _ ↔ s.verdicts.events &&& s.verdicts.mask ≠ 0 := decide_eq_true_iff
    _ ↔ ∃ e : Event, e.isIn (s.verdicts.events &&& s.verdicts.mask) = true := ne_zero_iff_exists_isIn
    _ ↔ ∃ e : Event, e.isIn s.verdicts.events = true ∧ e.isIn s.verdicts.mask = true := by
      simp only [isIn_and, Bool.and_eq_true]

end Sys2Proof.Machine.Attention
end

section
/-! SUPPORT. RECALL: the station's answer with a HISTORY (R152, R153). -/

namespace Sys2Proof.Machine.Recall

open Sys2Proof.Machine.Intake Sys2Proof.Machine.Contents

theorem takeRecall_of_answered {s : State} {r : RxRecord} (ht : r.header.target = s.control.number)
    (he : s.queue.history.state = .empty) : s.takeRecall r = s.offer .history s.historyRecord := if_pos ⟨ht, he⟩

theorem takeRecall_of_ignored {s : State} {r : RxRecord}
    (h : r.header.target ≠ s.control.number ∨ s.queue.history.state ≠ .empty) : s.takeRecall r = s :=
  if_neg (not_and_or.2 h)

theorem takeRecall_frame (s : State) (r : RxRecord) :
    (s.takeRecall r).control = s.control ∧ (s.takeRecall r).link.fifo = s.link.fifo := by
  unfold State.takeRecall
  split <;> simp

/-- RECALL is taken from record assembly and acts on a station at rest; nothing follows it. -/
theorem exec_recall {s : State} {r : RxRecord} (hrest : s.atRest) (hon : s.link.handOn = some (.record r))
    (hfifo : s.link.fifo = []) (hkind : r.header.kind = 11) :
    exec .recall s = .next ((takenOn s).takeRecall r) := by
  obtain ⟨control, fifo⟩ := takeRecall_frame (takenOn s) r
  have onKind : s.onKind .recall State.takeRecall = ((takenOn s).takeRecall r).drain :=
    onKind_of_handOn State.takeRecall hon hkind
  rw [State.drain_of_empty (fifo.trans hfifo)] at onKind
  refine event_of_settled (act := (State.onKind · .recall State.takeRecall)) hrest onKind ?_
  rw [control]
  exact hrest.2

/-- Settles O59: the record's command is `State.takeRecall` on the station that has taken the record. -/
theorem recallIsAnsweredWithAHistory : Obligations.RecallIsAnsweredWithAHistory := by
  intro s r hrest hon hfifo hkind taken body
  rw [exec_recall hrest hon hfifo hkind]
  refine ⟨fun ht he => ?_, fun h => ?_⟩
  · rw [takeRecall_of_answered (s := takenOn s) ht he]
    rfl
  · rw [takeRecall_of_ignored (s := takenOn s) h]
    rfl

end Sys2Proof.Machine.Recall
end

section
/-! SUPPORT. Period mode: the epoch statistics of a list of contributions in closed form (R161), and the values that a
close reads off them (R162). -/

namespace Sys2Proof.Machine.Period

open Sys2Proof.Machine.Separation

/-! ### The statistics of a list of contributions (R161) -/

/-- What the statistics hold once the contributions `es` have arrived one after another. -/
theorem statistics_eq (es : List Int) : es.foldl EpochStats.add EpochStats.start =
    { count := es.length, sum := es.sum, squares := (es.map fun e => e.natAbs ^ 2).sum, min := es.min?,
      max := es.max? } := by
  induction es using List.reverseRecOn with
  | nil => rfl
  | append_singleton es e ih =>
    rw [List.foldl_concat, ih]
    cases es with
    | nil => simp [EpochStats.add]
    | cons a es =>
      simp [EpochStats.add, List.min?_cons', List.max?_cons', add_assoc, -List.min?_cons, -List.max?_cons]

theorem natCast_sum_natAbs_sq (es : List Int) :
    ((es.map fun e => e.natAbs ^ 2).sum : Nat) = (es.map fun e => e * e).sum := by
  simp [Nat.cast_list_sum, Function.comp_def, sq]

/-! ### The variance (R162) -/

/-- The numerator of the variance is never negative: Chebyshev's inequality over the places of the list. -/
theorem sum_mul_sum_le (es : List Int) : es.sum * es.sum ≤ es.length * (es.map fun e => e * e).sum := by
  have chebyshev := sq_sum_le_card_mul_sum_sq (s := Finset.univ) (f := fun i : Fin es.length => es[i.1])
  simpa only [sq, Fin.sum_univ_getElem, Fin.sum_univ_fun_getElem es fun e => e * e, Finset.card_univ,
    Fintype.card_fin] using chebyshev

theorem values_variance {t : EpochStats} (h : t.sum * t.sum ≤ t.count * t.squares) :
    (t.values.variance : Int) = (t.count * t.squares - t.sum * t.sum) / (t.count * t.count) := by
  simp only [EpochStats.values, Int.natCast_ediv, Nat.cast_mul, sq, Int.toNat_of_nonneg (sub_nonneg.2 h)]

/-- The RMS is the floored root of the variance. -/
theorem values_rms (t : EpochStats) :
    t.values.rms ^ 2 ≤ t.values.variance ∧ t.values.variance < (t.values.rms + 1) ^ 2 :=
  rootIsTheFlooredRoot t.values.variance

/-! ### The peak-to-peak (R162) -/

theorem values_peak {t : EpochStats} {lo hi : Int} (hmin : t.min = some lo) (hmax : t.max = some hi)
    (h : lo ≤ hi) : (t.values.peak : Int) = hi - lo := by
  simp only [EpochStats.values, hmin, hmax]
  exact Int.toNat_of_nonneg (sub_nonneg.2 h)

/-- Contributions have a least and a greatest one among them. -/
theorem exists_extremes {es : List Int} (hne : es ≠ []) : ∃ lo ∈ es, ∃ hi ∈ es,
    es.min? = some lo ∧ es.max? = some hi ∧ ∀ e ∈ es, lo ≤ e ∧ e ≤ hi := by
  have hmin := List.min?_eq_some_min hne
  have hmax := List.max?_eq_some_max hne
  obtain ⟨lo_mem, lo_le⟩ := List.min?_eq_some_iff.1 hmin
  obtain ⟨hi_mem, le_hi⟩ := List.max?_eq_some_iff.1 hmax
  exact ⟨_, lo_mem, _, hi_mem, hmin, hmax, fun e he => ⟨lo_le e he, le_hi e he⟩⟩

/-! ### The statement -/

/-- Settles O21: the statistics are those of the whole list, the numerator is not negative by Chebyshev's inequality,
and the peak-to-peak is the distance of the greatest contribution from the least. -/
theorem periodValuesFollowTheStatistics : Obligations.PeriodValuesFollowTheStatistics := by
  intro es hne
  obtain ⟨lo, lo_mem, hi, hi_mem, hmin, hmax, within⟩ := exists_extremes hne
  rw [statistics_eq es]
  intro stats c squares
  have numerator : es.sum * es.sum ≤ c * squares := sum_mul_sum_le es
  have total : (stats.squares : Int) = squares := natCast_sum_natAbs_sq es
  have variance : (stats.values.variance : Int) = (c * squares - es.sum * es.sum) / (c * c) := by
    rw [← total] at numerator ⊢
    exact values_variance numerator
  have peak : (stats.values.peak : Int) = hi - lo := values_peak hmin hmax (within lo lo_mem).2
  obtain ⟨rms_le, lt_rms⟩ := values_rms stats
  refine ⟨sub_nonneg.2 numerator, variance, rms_le, lt_rms, fun a ha b hb => ?_, hi, hi_mem, lo, lo_mem, peak.symm⟩
  rw [peak]
  exact sub_le_sub (within a ha).2 (within b hb).1

end Sys2Proof.Machine.Period
end

section
/-! SUPPORT. POWER_ON: what the straps make of the station (R167, R168, R175), and a PRESENCE offered where the link is
not quiet long enough for a field to begin (R65, R73). -/

namespace Sys2Proof.Machine.Straps

open Sys2Proof.Machine.Intake

/-! ### An offer before the idle gap (R65, R73) -/

theorem contendIfQuiet_of_notQuiet {s : State} (h : s.link.quiet < Config.idleGap) : s.contendIfQuiet = s :=
  if_neg fun ⟨_, quiet, _⟩ => h.not_ge quiet

/-- A record offered to an EMPTY slot waits there, and no field begins yet. -/
theorem offer_of_notQuiet {s : State} {k : SlotKind} (r : Record) (going : s.linkStopped = false)
    (quiet : s.link.quiet < Config.idleGap) (empty : (s.queue.get k).state = .empty) :
    s.offer k r = s.withQueue (s.queue.set k { s.queue.get k with state := .unsent r }) := by
  have waits : s.onSlot k (Slot.offer k r)
      = s.withQueue (s.queue.set k { s.queue.get k with state := .unsent r }) := by
    simp only [State.onSlot, Slot.offer, empty]
    rfl
  rw [State.offer, if_neg (by simp [going]), waits]
  exact contendIfQuiet_of_notQuiet quiet

/-- A PRESENCE is one frame, for its record has 16 bytes (R86). -/
theorem presence_header (s : State) : s.presence.header =
    { kind := 1, source := s.control.number, target := 255, run := s.epochs.runNumber, epoch := s.epochs.counter,
      digest := s.ownDigest, frames := 1 } := by
  have length (b : PresenceBody) : (Body.presence b).bytes.length = 7 := rfl
  rw [State.presence, State.record, length]
  rfl

/-- The PRESENCE of a station with no other one in hand waits in its slot. -/
theorem presenceMade_of_notQuiet {s : State} (going : s.linkStopped = false)
    (quiet : s.link.quiet < Config.idleGap) (empty : s.queue.presence = Slot.empty) :
    s.presenceMade = s.withQueue { s.queue with presence :=
      { state := .unsent
          { header := { kind := 1, source := s.control.number, target := 255, run := s.epochs.runNumber,
                        epoch := s.epochs.counter, digest := s.ownDigest, frames := 1 }
            body := s.presence.body }
        successor := none } } := by
  have slot : s.queue.get .presence = Slot.empty := empty
  rw [State.presenceMade, offer_of_notQuiet _ going quiet (by rw [slot]; rfl), slot, ← presence_header]
  rfl

/-! ### The straps (R167, R175) -/

/-- Run control once it has read a number and its run state, and no reset holds the station any more. -/
def numbered (s : State) (straps : BitVec 5) (cause : ResetCause) (r : RunState) : State :=
  { s with hold := .free, control := { s.control with number := straps.toNat, cause := cause, state := r } }

/-- Straps of 0 to 23 number a station, and a PRESENCE of it is made. -/
theorem settle_readStraps_of_station {s : State} {straps : BitVec 5} (cause : ResetCause)
    (h : straps.toNat ≤ Config.lastStation) (settled : s.control.presenceDue = false) :
    (s.readStraps straps cause).settlePresence
      = (numbered s straps cause (if s.control.held.isSome then .ready else .awaitSetup)).presenceMade := by
  have read : s.readStraps straps cause
      = (numbered s straps cause (if s.control.held.isSome then .ready else .awaitSetup)).presenceDue := if_pos h
  rw [read, settlePresence_presenceDue (s := numbered _ _ _ _) settled] <;> simp only [numbered] <;> split <;> nofun

/-- Any other straps stop the link controller, and no PRESENCE is made. -/
theorem settle_readStraps_of_noStation {s : State} {straps : BitVec 5} (cause : ResetCause)
    (h : Config.lastStation < straps.toNat) (settled : s.control.presenceDue = false) :
    (s.readStraps straps cause).settlePresence
      = (numbered s straps cause .strapFault).withLink { s.link with mode := .stopped } := by
  have read : s.readStraps straps cause
      = (numbered s straps cause .strapFault).withLink { s.link with mode := .stopped } := if_neg h.not_ge
  rw [read]
  exact State.settlePresence_of_settled settled

/-! ### POWER_ON (R168) -/

/-- Power-on values in every block; the commands that wait are kept. -/
def fresh (s : State) : State := { State.reset with pending := s.pending }

/-- The internal power-on reset ends with RESET_N high: the straps are read at once. -/
theorem exec_powerOn_high (straps : BitVec 5) (s : State) :
    exec (.powerOn straps false) s = .next ((fresh s).readStraps straps .power).settlePresence := rfl

/-- The internal power-on reset ends with RESET_N low: RESET_N holds the station on. -/
theorem exec_powerOn_low (straps : BitVec 5) (s : State) :
    exec (.powerOn straps true) s = .next { fresh s with hold := .resetNFromPowerOn } := rfl

/-! ### The statement -/

/-- Settles O9: the fresh station reads its straps; its PRESENCE waits in an EMPTY slot, since the quiet count is 0. -/
theorem powerOnReadsTheStraps : Obligations.PowerOnReadsTheStraps := by
  intro straps s
  refine ⟨fun station => ?_, fun noStation => ?_, exec_powerOn_low straps s⟩
  · have read : ((fresh s).readStraps straps .power).settlePresence
        = (numbered (fresh s) straps .power .awaitSetup).presenceMade :=
      settle_readStraps_of_station .power station rfl
    have quiet : (numbered (fresh s) straps .power .awaitSetup).link.quiet < Config.idleGap := Nat.zero_lt_succ _
    rw [exec_powerOn_high, read, presenceMade_of_notQuiet rfl quiet rfl]
    rfl
  · rw [exec_powerOn_high, settle_readStraps_of_noStation .power noStation rfl]
    rfl

end Sys2Proof.Machine.Straps
end

section
/-! SUPPORT. A step and the queue, and the shape that the meanings of all commands but those of a reset share. -/

namespace Sys2Proof.Machine.Shape

/-! ### One step -/

theorem step_of_pending {s : State} {c : Instr} {rest : List Instr} (h : s.pending = c :: rest) :
    step s = exec c (s.withPending rest) := by
  rw [step, h]

theorem step_of_idle {s : State} (h : s.pending = []) : step s = .next s := by
  rw [step, h]

/-! ### The commands while a reset holds the station -/

/-- Every command but the three of a reset acts as an event that its operands allow. -/
theorem exec_eq_checkedEvent (c : Instr) (powerOn : ∀ straps low, c ≠ .powerOn straps low)
    (asserted : c ≠ .resetNAsserted) (released : ∀ straps, c ≠ .resetNReleased straps) :
    ∃ act, ∀ s, exec c s = s.checkedEvent c.wf act := by
  cases c with
  | powerOn straps low => exact absurd rfl (powerOn straps low)
  | resetNAsserted => exact absurd rfl asserted
  | resetNReleased straps => exact absurd rfl (released straps)
  | _ => exact ⟨_, fun _ => rfl⟩

/-- RESET_N asserted again restarts no reset that is under way. -/
theorem exec_resetNAsserted_of_held {s : State} (h : s.hold ≠ .free) : exec .resetNAsserted s = .next s :=
  congrArg Host.Outcome.next (if_neg h)

/-! ### The statements -/

/-- Settles O1: the two forms of the queue. -/
theorem stepRunsTheFrontCommand : Obligations.StepRunsTheFrontCommand :=
  ⟨fun _ _ _ => step_of_pending, fun _ => step_of_idle⟩

/-- Settles O3: RESET_N asserted again finds its reset under way, and any other command is an event, which a held
station does not take. -/
theorem resetHoldsOffEveryEvent : Obligations.ResetHoldsOffEveryEvent := by
  intro c s held wf powerOn released
  by_cases asserted : c = .resetNAsserted
  · rw [asserted]
    exact exec_resetNAsserted_of_held held
  · obtain ⟨act, exec_eq⟩ := exec_eq_checkedEvent c powerOn asserted released
    rw [exec_eq, wf, State.checkedEvent_true, State.event_of_held held]

end Sys2Proof.Machine.Shape
end
